-- ==== Sys2Proof/Word.lean ====
section
/-! DEFINITION. The value types of spec/00_scope.md rule R9. -/

namespace Sys2Proof

/-- `Byte` of R9: a natural number below 256, of which bit 0 is the least significant (R10). -/
abbrev Byte := BitVec 8

/-- `Str` of R9: a byte string; its first byte has index 0. -/
abbrev Str := List Byte

/-- `CpSeq` of R9: a sequence of code points, each an unbounded natural number. -/
abbrev CpSeq := List Nat

/-- `Bits` of R9: a sequence of bits, the bit 1 written `true`. -/
abbrev Bits := List Bool

/-- The byte string of a text, one byte a character, by its ASCII code (R9; general knowledge, G3: log 26). -/
def ascii (text : String) : Str := text.toList.map fun c => BitVec.ofNat 8 c.toNat

end Sys2Proof
end

