-- ==== Sys2Proof/Config.lean ====
section
/-! DEFINITION. The implementation parameters of spec/00_scope.md rule R7 and spec/10_state.md rule R27: the fixed
ones are constants, the OPEN ones are fields of `Params`, which State holds and no step writes (log 1). -/

namespace Sys2Proof

/-- SEP, the field separator `/` (R7, recovered: spec/90_conflicts.md C9). -/
def SEP : Byte := 0x2F

/-- FILLER, the semi-octet filler `F` (R7). -/
def FILLER : Byte := 0x46

/-- ALNUM_OTOA, the text 5039 that flags an alphanumeric sender (R7). -/
def ALNUM_OTOA : Str := [0x35, 0x30, 0x33, 0x39]

/-- HEADER_LEN (R7, R62). -/
def HEADER_LEN : Nat := 13

/-- CHECKSUM_LEN (R7, R67). -/
def CHECKSUM_LEN : Nat := 2

/-- MAX_LEN, the largest value the `len` field can carry (R7). -/
def MAX_LEN : Nat := 99999

/-- ETX_CHECK (R7, R183): how parser step 2 looks for the end delimiter. -/
inductive EtxCheck where
  | firstEtx
  | lastByte
deriving DecidableEq, Repr

/-- Which functions an external collaborator is: the default the spec states, or functions of which nothing is
known (R5, R140 to R142; U6, U7). -/
inductive Collaborator where
  | specDefault
  | external
deriving DecidableEq, Repr

/-- The OPEN parameters of R7, and MAX_BUF of R41. -/
structure Params where
  /-- STX, the start-of-frame delimiter. -/
  stx : Byte
  /-- ETX, the end-of-frame delimiter. -/
  etx : Byte
  /-- TRN_MIN. -/
  trnMin : Nat
  /-- TRN_MAX. -/
  trnMax : Nat
  /-- REF_MIN. -/
  refMin : Nat
  /-- REF_MAX. -/
  refMax : Nat
  /-- ETX_CHECK. -/
  etxCheck : EtxCheck
  /-- PACK7 and UNPACK7. -/
  packer : Collaborator
  /-- TO_WIRE and TO_LOCAL. -/
  transcoder : Collaborator
  /-- MAX_BUF; `none` is unbounded (R41, D31). -/
  maxBuf : Option Nat
deriving DecidableEq, Repr

/-- The defaults of R7 and R27: STX, ETX and the counter ranges are general knowledge (G1, G2: PRESUMED, log 2,
log 3), the packer too (G4, G5: PRESUMED, log 4); the identity transcoder, FIRST_ETX and the unbounded buffer are
the spec's own choice (D4, D5, D31: DESIGN CHOICE, log 5, log 6, log 7). -/
def Params.default : Params where
  stx := 0x02
  etx := 0x03
  trnMin := 0
  trnMax := 99
  refMin := 0
  refMax := 255
  etxCheck := .firstEtx
  packer := .specDefault
  transcoder := .specDefault
  maxBuf := none

/-- PACK7 of an external packer (R140): a total pure function, otherwise unknown (log 4). -/
opaque externalPack7 : Str → Str

/-- UNPACK7 of an external unpacker (R141): a total pure function, otherwise unknown (log 4). -/
opaque externalUnpack7 : Str → Str

/-- TO_WIRE of an external transcoder (R142): a total pure function, otherwise unknown (log 5). -/
opaque externalToWire : Str → Str

/-- TO_LOCAL of an external transcoder (R142): a total pure function, otherwise unknown (log 5). -/
opaque externalToLocal : Str → Str

end Sys2Proof
end

