-- ==== Sys2Proof/Syntax.lean ====
section
/-! DEFINITION. Everything an operation takes, returns or is: the records of spec/10_state.md (R28 to R30), the
error names of spec/30_encoding.md (R81), the instructions (one constructor a row of spec/opcode_table.json) and
the form in which the host presents them (R69, R80). -/

namespace Sys2Proof

/-- Header (R28): the four header fields as byte strings. -/
structure Header where
  trn  : Str
  len  : Str
  role : Str
  ot   : Str
deriving DecidableEq, Repr

/-- The fields of the schema AddressInfoRequest (R29, R70), in wire order. -/
structure AddressInfoRequest where
  adc : Str
  pid : Str
deriving DecidableEq, Repr

/-- The 12 fields of the schema SessionRequest (R29, R71), in wire order. -/
structure SessionRequest where
  oadc : Str
  oton : Str
  onpi : Str
  styp : Str
  pwd  : Str
  npwd : Str
  vers : Str
  ladc : Str
  lton : Str
  lnpi : Str
  opid : Str
  res1 : Str
deriving DecidableEq, Repr

/-- The 33 fields of the schema SubmitShortMessage (R29, R72), in wire order. The count is 33, not the 31 of the
design document's prose (spec/90_conflicts.md C5: log 27). -/
structure SubmitShortMessage where
  adc   : Str
  oadc  : Str
  ac    : Str
  nrq   : Str
  nadc  : Str
  nt    : Str
  npid  : Str
  lrq   : Str
  lrad  : Str
  lpid  : Str
  dd    : Str
  ddt   : Str
  vp    : Str
  rpid  : Str
  scts  : Str
  dst   : Str
  rsn   : Str
  dscts : Str
  mt    : Str
  nb    : Str
  msg   : Str
  mms   : Str
  pr    : Str
  dcs   : Str
  mcls  : Str
  rpi   : Str
  cpg   : Str
  rply  : Str
  otoa  : Str
  hplmn : Str
  xser  : Str
  res4  : Str
  res5  : Str
deriving DecidableEq, Repr

/-- The fields of an Ack (R29, R73): `mvp` may be absent, which is not the same as present and empty (R205). -/
structure Ack where
  mvp : Option Str
  sm  : Str
deriving DecidableEq, Repr

/-- The fields of a Nack (R29, R74). -/
structure Nack where
  ec : Str
  sm : Str
deriving DecidableEq, Repr

/-- Body (R29): one of five variants, a closed sum type. -/
inductive Body where
  | addressInfoRequest (b : AddressInfoRequest)
  | sessionRequest (b : SessionRequest)
  | submitShortMessage (b : SubmitShortMessage)
  | ack (b : Ack)
  | nack (b : Nack)
deriving DecidableEq, Repr

/-- The Status values other than OK (R81). The first five are the design document's errors (R230), the last two
are the spec's own (R236). -/
inductive Error where
  /-- Frame structurally malformed; raised by PARSE and DECODE (R231). -/
  | invalidMessage
  /-- Bytes follow the end delimiter; raised by PARSE and DECODE (R183, R231). -/
  | messageTooLong
  /-- The header region does not split into exactly 4 fields; raised by PARSE and DECODE (R184). -/
  | invalidHeader
  /-- Recognised operation, wrong field count or undecodable sender; raised by PBODY, DECODE and the FRAME rows of
  role O (R201 to R203). -/
  | invalidCommandSyntax
  /-- Unrecognised operation, role or marker; raised by PBODY, DECODE and a frame that no schema takes (R207). -/
  | unsupportedOperation
  /-- The operands lie outside the domain the design document defines (R236): no result is delivered (log 8). -/
  | undefinedInput
  /-- The OPSEL is reserved (R82). -/
  | illegalOp
deriving DecidableEq, Repr

/-- The instructions: the 25 operations of R80 (format CMD) with their typed operands, so that an operand of the
wrong type cannot be expressed (R82), and the 8 frame schemas of R69 (format FRAME). A schema of role O carries the
fields of the body, whatever their number, because the count is checked by the schema's own rule (R201 to R203); a
schema of role R is selected by the count, so it carries its fields by name, and the `ot` it is told to ignore
(R66). -/
inductive Instr where
  /-- B2H, OPSEL 0x10, R100. -/
  | b2h (b : Byte)
  /-- CP2H, OPSEL 0x11, R101. -/
  | cp2h (c : Nat)
  /-- SEQ2H, OPSEL 0x12, R102. -/
  | seq2h (cps : CpSeq)
  /-- H2B, OPSEL 0x13, R103. -/
  | h2b (h : Str)
  /-- H2BITS, OPSEL 0x14, R104. -/
  | h2bits (h : Str)
  /-- CHUNK, OPSEL 0x15, R105. -/
  | chunk (b : Str) (maxSize : Nat)
  /-- PADR, OPSEL 0x16, R106. -/
  | padr (b : Str) (width : Nat)
  /-- REVENC, OPSEL 0x20, R120. -/
  | revenc (digits : Str)
  /-- REVDEC, OPSEL 0x21, R121. -/
  | revdec (r : Str)
  /-- ADV, OPSEL 0x30, R130. -/
  | adv (value min max : Nat)
  /-- ADVS, OPSEL 0x31, R131. -/
  | advs (value : Str) (min max : Nat)
  /-- RTRN, OPSEL 0x32, R132. -/
  | rtrn (value : Nat)
  /-- SNDENC, OPSEL 0x40, R144. -/
  | sndenc (text : Str)
  /-- SNDDEC, OPSEL 0x41, R145. -/
  | snddec (otoa field : Str)
  /-- SOCNT, OPSEL 0x42, R143. -/
  | socnt (h : Str)
  /-- JOIN, OPSEL 0x50, R160. -/
  | join (l : List Str)
  /-- CSUM, OPSEL 0x51, R161. -/
  | csum (m : Str)
  /-- COMPOSE, OPSEL 0x52, R162. -/
  | compose (trn role ot : Str) (bodyFields : List Str)
  /-- WRAP, OPSEL 0x53, R163. -/
  | wrap (m : Str)
  /-- CREATE, OPSEL 0x54, R164. -/
  | create (currentTrn : Nat) (ot : Str) (bodyFields : List Str)
  /-- RENDER, OPSEL 0x55, R165. -/
  | render (body : Body)
  /-- PARSE, OPSEL 0x60, R181. -/
  | parse (buf : Str)
  /-- SPLIT, OPSEL 0x61, R180. -/
  | split (text : Str)
  /-- DECODE, OPSEL 0x62, R189. -/
  | decode (buf : Str)
  /-- PBODY, OPSEL 0x70, R200. -/
  | pbody (header : Header) (bodyText : Str)
  /-- Frame schema O/31, AddressInfoRequest, R201. -/
  | frameO31 (fields : List Str)
  /-- Frame schema O/60, SessionRequest, R202. -/
  | frameO60 (fields : List Str)
  /-- Frame schema O/51, SubmitShortMessage, R203. -/
  | frameO51 (fields : List Str)
  /-- Frame schema O/52, SubmitShortMessage, R203. -/
  | frameO52 (fields : List Str)
  /-- Frame schema O/53, SubmitShortMessage, R203. -/
  | frameO53 (fields : List Str)
  /-- Frame schema R with 2 fields and marker A, R204. -/
  | frameRAck2 (ot sm : Str)
  /-- Frame schema R with 3 fields and marker A, R205. -/
  | frameRAck3 (ot mvp sm : Str)
  /-- Frame schema R with 3 fields and marker N, R206. -/
  | frameRNack (ot ec sm : Str)
deriving DecidableEq, Repr

/-- The named operands of R80, each under its own name and type (R21: no numbered slots); where R80 gives one name
two types the type is added to the name. An operation reads its own operands and no other. -/
structure Operands where
  bByte      : Byte
  c          : Nat
  sCp        : CpSeq
  h          : Str
  bStr       : Str
  maxSize    : Nat
  width      : Nat
  sStr       : Str
  r          : Str
  valueNat   : Nat
  valueStr   : Str
  min        : Nat
  max        : Nat
  text       : Str
  otoa       : Str
  field      : Str
  l          : List Str
  m          : Str
  trn        : Str
  role       : Str
  ot         : Str
  bodyFields : List Str
  currentTrn : Nat
  body       : Body
  buf        : Str
  header     : Header
  bodyText   : Str
deriving DecidableEq, Repr

/-- A header whose four fields are empty. -/
def Header.blank : Header := { trn := [], len := [], role := [], ot := [] }

/-- Every operand zero or empty: what stands at an operand nobody gave. -/
def Operands.blank : Operands where
  bByte := 0
  c := 0
  sCp := []
  h := []
  bStr := []
  maxSize := 0
  width := 0
  sStr := []
  r := []
  valueNat := 0
  valueStr := []
  min := 0
  max := 0
  text := []
  otoa := []
  field := []
  l := []
  m := []
  trn := []
  role := []
  ot := []
  bodyFields := []
  currentTrn := 0
  body := .ack { mvp := none, sm := [] }
  buf := []
  header := Header.blank
  bodyText := []

/-- What the host presents to the block for one transaction (R14, R80), in the two formats of the opcode table. -/
inductive Issue where
  /-- Format CMD: an OPSEL and the operands (R80). -/
  | command (opsel : Byte) (operands : Operands)
  /-- Format FRAME: a header and the raw body text, handed to the Body Schema Dispatcher (R3, R69, R189; log 14). -/
  | frame (header : Header) (bodyText : Str)
deriving DecidableEq, Repr

end Sys2Proof
end

