-- ==== Sys2Proof/Machine/Operands.lean ====
section
/-! DEFINITION. The text forms in which the operands and results of the operations are written: decimal text (R43),
hex text (R44, R77), fields between separators (R68), slices of a buffer (R9), and the lengths of the operands (R41). -/

namespace Sys2Proof.Machine

/-! ### Decimal text -/

/-- A byte that is `0` to `9`. -/
def isDigit (c : Byte) : Bool := 0x30 ≤ c.toNat && c.toNat ≤ 0x39

/-- The ASCII digit of a number below 10. -/
def digit (n : Nat) : Byte := BitVec.ofNat 8 (0x30 + n)

/-- `dec_N(v)` of R9: the last N decimal digits of v, most significant first, padded with `0`. R9 defines it only
for v < 10^N, and the operations call it only there. -/
def dec : Nat → Nat → Str
  | 0, _ => []
  | n + 1, v => dec n (v / 10) ++ [digit (v % 10)]

/-- `undec(s)` of R9, on a string of digits. -/
def undec (s : Str) : Nat := s.foldl (fun acc c => acc * 10 + (c.toNat - 0x30)) 0

/-- The value of a string that is a decimal number, nothing for any other string (R131, R185). -/
def decimalValue (s : Str) : Option Nat :=
  if s ≠ [] ∧ s.all isDigit then some (undec s) else none

/-! ### Hex text -/

/-- HEXDIG of R9: the 16 digits, uppercase. -/
def HEXDIG : Str :=
  [0x30, 0x31, 0x32, 0x33, 0x34, 0x35, 0x36, 0x37, 0x38, 0x39, 0x41, 0x42, 0x43, 0x44, 0x45, 0x46]

/-- `HEXDIG[n]` of R9. -/
def hexDigit (n : BitVec 4) : Byte := HEXDIG.getD n.toNat 0

/-- `hexval(c)` of R9: the index of a byte in HEXDIG, nothing for a byte outside it (lowercase too: D16, log 19). -/
def hexval (c : Byte) : Option (BitVec 4) :=
  (HEXDIG.findIdx? (· == c)).map (BitVec.ofNat 4)

/-- A byte of HEXDIG. -/
def isHexDigit (c : Byte) : Bool := HEXDIG.contains c

/-- The values of a string of hex digits, nothing when a byte is not one. -/
def hexNibbles : Str → Option (List (BitVec 4))
  | [] => some []
  | c :: cs =>
    match hexval c, hexNibbles cs with
    | some n, some ns => some (n :: ns)
    | _, _ => none

/-- Two nibbles a byte, the first one the high nibble (R103); nothing for an odd number of nibbles. -/
def nibblePairs : List (BitVec 4) → Option Str
  | [] => some []
  | [_] => none
  | hi :: lo :: rest =>
    match nibblePairs rest with
    | some b => some (BitVec.ofNat 8 (hi.toNat * 16 + lo.toNat) :: b)
    | none => none

/-- The two uppercase hex digits of a byte (R44, R100). -/
def byteToHex (b : Byte) : Str := [hexDigit (b.extractLsb' 4 4), hexDigit (b.extractLsb' 0 4)]

/-- Hex text of a byte string (R77): two digits a byte. -/
def hexText (b : Str) : Str := b.flatMap byteToHex

/-! ### Fields -/

/-- The fields of a string split on SEP, `cur` being the field read so far (the loop of R180). -/
def splitFrom (cur : Str) : Str → List Str
  | [] => [cur]
  | c :: cs => if c = SEP then cur :: splitFrom [] cs else splitFrom (cur ++ [c]) cs

/-- R180: the fields of a string, one more than it has separators. -/
def splitFields (text : Str) : List Str := splitFrom [] text

/-- R160: the fields joined with SEP. -/
def joinFields : List Str → Str
  | [] => []
  | [f] => f
  | f :: g :: rest => f ++ SEP :: joinFields (g :: rest)

/-- Field i of a list whose length has been checked. -/
def fieldAt (f : List Str) (i : Nat) : Str := f.getD i []

/-! ### Buffers -/

/-- `s[i..j)` of R9. -/
def slice (s : Str) (i j : Nat) : Str := (s.drop i).take (j - i)

/-- The four fields of a header record (R28). -/
def headerFields (h : Header) : List Str := [h.trn, h.len, h.role, h.ot]

/-- The field list of a body (R165): the marker of an Ack or Nack first, every field copied as it stands. -/
def renderBody : Body → List Str
  | .addressInfoRequest b => [b.adc, b.pid]
  | .sessionRequest b =>
    [b.oadc, b.oton, b.onpi, b.styp, b.pwd, b.npwd, b.vers, b.ladc, b.lton, b.lnpi, b.opid, b.res1]
  | .submitShortMessage b =>
    [b.adc, b.oadc, b.ac, b.nrq, b.nadc, b.nt, b.npid, b.lrq, b.lrad, b.lpid, b.dd, b.ddt, b.vp, b.rpid,
      b.scts, b.dst, b.rsn, b.dscts, b.mt, b.nb, b.msg, b.mms, b.pr, b.dcs, b.mcls, b.rpi, b.cpg, b.rply,
      b.otoa, b.hplmn, b.xser, b.res4, b.res5]
  | .ack { mvp := none, sm } => [[0x41], sm]
  | .ack { mvp := some mvp, sm } => [[0x41], mvp, sm]
  | .nack b => [[0x4E], b.ec, b.sm]

/-- The lengths of a body record's fields (R29): the marker of an Ack or Nack is none of them, RENDER writes it
(R165). -/
def bodyLengths : Body → List Nat
  | .addressInfoRequest b => (renderBody (.addressInfoRequest b)).map List.length
  | .sessionRequest b => (renderBody (.sessionRequest b)).map List.length
  | .submitShortMessage b => (renderBody (.submitShortMessage b)).map List.length
  | .ack { mvp := none, sm } => [sm.length]
  | .ack { mvp := some mvp, sm } => [mvp.length, sm.length]
  | .nack b => [b.ec.length, b.sm.length]

/-- The lengths of an instruction's operand buffers: each byte string by its bytes, a code-point sequence by its
elements, a list by its elements one by one, a record by its fields (R41; how they are measured is the model's choice:
log 7). An instruction of format FRAME has no operands of its own: the header and body text that select it are measured
as they are presented (`issueLengths`). -/
def operandLengths : Instr → List Nat
  | .b2h _ => []
  | .cp2h _ => []
  | .seq2h cps => [cps.length]
  | .h2b h => [h.length]
  | .h2bits h => [h.length]
  | .chunk b _ => [b.length]
  | .padr b _ => [b.length]
  | .revenc digits => [digits.length]
  | .revdec r => [r.length]
  | .adv _ _ _ => []
  | .advs value _ _ => [value.length]
  | .rtrn _ => []
  | .sndenc text => [text.length]
  | .snddec otoa field => [otoa.length, field.length]
  | .socnt h => [h.length]
  | .join l => l.map List.length
  | .csum m => [m.length]
  | .compose trn role ot bodyFields => [trn, role, ot].map List.length ++ bodyFields.map List.length
  | .wrap m => [m.length]
  | .create _ ot bodyFields => ot.length :: bodyFields.map List.length
  | .render body => bodyLengths body
  | .parse buf => [buf.length]
  | .split text => [text.length]
  | .decode buf => [buf.length]
  | .pbody header bodyText => (headerFields header).map List.length ++ [bodyText.length]
  | .frameO31 _ => []
  | .frameO60 _ => []
  | .frameO51 _ => []
  | .frameO52 _ => []
  | .frameO53 _ => []
  | .frameRAck2 _ _ => []
  | .frameRAck3 _ _ _ => []
  | .frameRNack _ _ _ => []

end Sys2Proof.Machine
end

