-- ==== Sys2Proof/WellFormed.lean ====
section
/-! DEFINITION. What makes an instruction, and a set of parameters, well formed. -/

namespace Sys2Proof

/-- A byte string that holds no separator: what a field on the wire can be (R31, R68). -/
def noSep (f : Str) : Bool := !f.contains SEP

/-- The fields of a frame body: at least one (R68: an empty body is one empty field), none with a separator in it. -/
def bodyFieldsOk (fields : List Str) : Bool := !fields.isEmpty && fields.all noSep

/-- Well-formed instructions. The operand types are part of an operation (R82), so every instruction of format CMD
is well formed. A frame's fields must be what its body text can carry. -/
def Instr.wellFormed : Instr → Bool
  | .b2h _ => true
  | .cp2h _ => true
  | .seq2h _ => true
  | .h2b _ => true
  | .h2bits _ => true
  | .chunk _ _ => true
  | .padr _ _ => true
  | .revenc _ => true
  | .revdec _ => true
  | .adv _ _ _ => true
  | .advs _ _ _ => true
  | .rtrn _ => true
  | .sndenc _ => true
  | .snddec _ _ => true
  | .socnt _ => true
  | .join _ => true
  | .csum _ => true
  | .compose _ _ _ _ => true
  | .wrap _ => true
  | .create _ _ _ => true
  | .render _ => true
  | .parse _ => true
  | .split _ => true
  | .decode _ => true
  | .pbody _ _ => true
  | .frameO31 fields => bodyFieldsOk fields
  | .frameO60 fields => bodyFieldsOk fields
  | .frameO51 fields => bodyFieldsOk fields
  | .frameO52 fields => bodyFieldsOk fields
  | .frameO53 fields => bodyFieldsOk fields
  | .frameRAck2 _ sm => noSep sm
  | .frameRAck3 _ mvp sm => noSep mvp && noSep sm
  | .frameRNack _ ec sm => noSep ec && noSep sm

/-- A byte R8 forbids as a delimiter: a decimal digit, an uppercase hex letter, or `O`, `R`, `A`, `N`. -/
def reservedForText (c : Byte) : Bool :=
  Machine.isHexDigit c || c == 0x4F || c == 0x52 || c == 0x41 || c == 0x4E

/-- The constraints of R8 on the parameters (the spec's own, D6). -/
abbrev Params.Legal (p : Params) : Prop :=
  p.stx ≠ p.etx ∧ p.stx ≠ SEP ∧ p.etx ≠ SEP ∧
  reservedForText p.stx = false ∧ reservedForText p.etx = false ∧
  p.trnMin ≤ p.trnMax ∧ p.trnMax ≤ 99 ∧ p.refMin ≤ p.refMax

end Sys2Proof
end

