-- ==== Sys2Proof/Decode.lean ====
section
/-! DEFINITION. From what the host presents to an instruction, and back (spec/30_encoding.md R69, R80, R82). The
decoder is total: what it does not accept it rejects with the Status the spec names. -/

namespace Sys2Proof

open Machine (splitFields joinFields)

/-- The role byte string `O` (R65). -/
def ROLE_O : Str := [0x4F]

/-- The role byte string `R` (R65). -/
def ROLE_R : Str := [0x52]

/-- The marker field `A` of an Ack (R73). -/
def MARK_A : Str := [0x41]

/-- The marker field `N` of a Nack (R74). -/
def MARK_N : Str := [0x4E]

/-- Operation type 31 (R66). -/
def OT_31 : Str := [0x33, 0x31]

/-- Operation type 51 (R66). -/
def OT_51 : Str := [0x35, 0x31]

/-- Operation type 52 (R66). -/
def OT_52 : Str := [0x35, 0x32]

/-- Operation type 53 (R66). -/
def OT_53 : Str := [0x35, 0x33]

/-- Operation type 60 (R66). -/
def OT_60 : Str := [0x36, 0x30]

/-- The operation that an OPSEL selects, with its operands (the table of R80: D9, log 9). A reserved OPSEL is
ILLEGAL_OP before any operand is looked at (R82, R235). -/
def decodeCommand (opsel : Byte) (o : Operands) : Except Error Instr :=
  match opsel.toNat with
  | 0x10 => .ok (.b2h o.bByte)
  | 0x11 => .ok (.cp2h o.c)
  | 0x12 => .ok (.seq2h o.sCp)
  | 0x13 => .ok (.h2b o.h)
  | 0x14 => .ok (.h2bits o.h)
  | 0x15 => .ok (.chunk o.bStr o.maxSize)
  | 0x16 => .ok (.padr o.bStr o.width)
  | 0x20 => .ok (.revenc o.sStr)
  | 0x21 => .ok (.revdec o.r)
  | 0x30 => .ok (.adv o.valueNat o.min o.max)
  | 0x31 => .ok (.advs o.valueStr o.min o.max)
  | 0x32 => .ok (.rtrn o.valueNat)
  | 0x40 => .ok (.sndenc o.text)
  | 0x41 => .ok (.snddec o.otoa o.field)
  | 0x42 => .ok (.socnt o.h)
  | 0x50 => .ok (.join o.l)
  | 0x51 => .ok (.csum o.m)
  | 0x52 => .ok (.compose o.trn o.role o.ot o.bodyFields)
  | 0x53 => .ok (.wrap o.m)
  | 0x54 => .ok (.create o.currentTrn o.ot o.bodyFields)
  | 0x55 => .ok (.render o.body)
  | 0x60 => .ok (.parse o.buf)
  | 0x61 => .ok (.split o.sStr)
  | 0x62 => .ok (.decode o.buf)
  | 0x70 => .ok (.pbody o.header o.bodyText)
  | _ => .error .illegalOp

/-- The schema that a frame selects (the table of R69). For role O the (role, ot) pair selects and the schema checks
the count; for role R the count and the marker select. A frame outside the table is unsupported_operation (R207). -/
def decodeSchema (header : Header) (bodyText : Str) : Except Error Instr :=
  let f := splitFields bodyText
  if header.role = ROLE_O then
    if header.ot = OT_31 then .ok (.frameO31 f)
    else if header.ot = OT_60 then .ok (.frameO60 f)
    else if header.ot = OT_51 then .ok (.frameO51 f)
    else if header.ot = OT_52 then .ok (.frameO52 f)
    else if header.ot = OT_53 then .ok (.frameO53 f)
    else .error .unsupportedOperation
  else if header.role = ROLE_R then
    match f with
    | [mark, sm] =>
      if mark = MARK_A then .ok (.frameRAck2 header.ot sm) else .error .unsupportedOperation
    | [mark, mid, sm] =>
      if mark = MARK_A then .ok (.frameRAck3 header.ot mid sm)
      else if mark = MARK_N then .ok (.frameRNack header.ot mid sm)
      else .error .unsupportedOperation
    | _ => .error .unsupportedOperation
  else .error .unsupportedOperation

/-- The instruction that the host presents, or the Status with which the block rejects it. -/
def decode : Issue → Except Error Instr
  | .command opsel operands => decodeCommand opsel operands
  | .frame header bodyText => decodeSchema header bodyText

/-- A header of which only the fields that select a schema are given (R200: `trn` and `len` are not read). -/
def schemaHeader (role ot : Str) : Header := { Header.blank with role := role, ot := ot }

/-- The form in which the host presents an instruction: the OPSEL of R80 with the operands under their names, or
the header and body text of R69 to R74. -/
def encode : Instr → Issue
  | .b2h b => .command 0x10 { Operands.blank with bByte := b }
  | .cp2h c => .command 0x11 { Operands.blank with c := c }
  | .seq2h cps => .command 0x12 { Operands.blank with sCp := cps }
  | .h2b h => .command 0x13 { Operands.blank with h := h }
  | .h2bits h => .command 0x14 { Operands.blank with h := h }
  | .chunk b maxSize => .command 0x15 { Operands.blank with bStr := b, maxSize := maxSize }
  | .padr b width => .command 0x16 { Operands.blank with bStr := b, width := width }
  | .revenc digits => .command 0x20 { Operands.blank with sStr := digits }
  | .revdec r => .command 0x21 { Operands.blank with r := r }
  | .adv value min max => .command 0x30 { Operands.blank with valueNat := value, min := min, max := max }
  | .advs value min max => .command 0x31 { Operands.blank with valueStr := value, min := min, max := max }
  | .rtrn value => .command 0x32 { Operands.blank with valueNat := value }
  | .sndenc text => .command 0x40 { Operands.blank with text := text }
  | .snddec otoa field => .command 0x41 { Operands.blank with otoa := otoa, field := field }
  | .socnt h => .command 0x42 { Operands.blank with h := h }
  | .join l => .command 0x50 { Operands.blank with l := l }
  | .csum m => .command 0x51 { Operands.blank with m := m }
  | .compose trn role ot bodyFields =>
    .command 0x52 { Operands.blank with trn := trn, role := role, ot := ot, bodyFields := bodyFields }
  | .wrap m => .command 0x53 { Operands.blank with m := m }
  | .create currentTrn ot bodyFields =>
    .command 0x54 { Operands.blank with currentTrn := currentTrn, ot := ot, bodyFields := bodyFields }
  | .render body => .command 0x55 { Operands.blank with body := body }
  | .parse buf => .command 0x60 { Operands.blank with buf := buf }
  | .split text => .command 0x61 { Operands.blank with sStr := text }
  | .decode buf => .command 0x62 { Operands.blank with buf := buf }
  | .pbody header bodyText => .command 0x70 { Operands.blank with header := header, bodyText := bodyText }
  | .frameO31 fields => .frame (schemaHeader ROLE_O OT_31) (joinFields fields)
  | .frameO60 fields => .frame (schemaHeader ROLE_O OT_60) (joinFields fields)
  | .frameO51 fields => .frame (schemaHeader ROLE_O OT_51) (joinFields fields)
  | .frameO52 fields => .frame (schemaHeader ROLE_O OT_52) (joinFields fields)
  | .frameO53 fields => .frame (schemaHeader ROLE_O OT_53) (joinFields fields)
  | .frameRAck2 ot sm => .frame (schemaHeader ROLE_R ot) (joinFields [MARK_A, sm])
  | .frameRAck3 ot mvp sm => .frame (schemaHeader ROLE_R ot) (joinFields [MARK_A, mvp, sm])
  | .frameRNack ot ec sm => .frame (schemaHeader ROLE_R ot) (joinFields [MARK_N, ec, sm])

/-! ### The words of spec/opcode_table.json -/

/-- Byte k of a word, byte 0 its bits 7..0. -/
def wordByte (w k : Nat) : Byte := BitVec.ofNat 8 (w >>> (8 * k))

/-- How many fields the body of a table word has: the count its row asks for (R69), which no bit of the word holds.
The two Ack rows share one word, and the smaller count is taken (DESIGN CHOICE, log 15). -/
def tableCount (role : Byte) (ot : Str) (mark : Byte) : Nat :=
  if role = 0x4F then
    if ot = OT_31 then 2
    else if ot = OT_60 then 12
    else if ot = OT_51 ∨ ot = OT_52 ∨ ot = OT_53 then 33
    else 1
  else if mark = 0x4E then 3
  else 2

/-- A body text of `count` fields whose first byte is `mark`, every other field byte absent. -/
def tableBody (mark : Byte) (count : Nat) : Str :=
  if mark = SEP then List.replicate (count - 1) SEP else mark :: List.replicate (count - 1) SEP

/-- What the host presents for a word of the opcode table: up to 8 bits are an OPSEL with blank operands; 32 bits are
the selector of R69, role in bits 31..24, `ot` in bits 23..8, first byte of the body in bits 7..0 (log 15). -/
def tableIssue (nbits w : Nat) : Issue :=
  if nbits ≤ 8 then .command (wordByte w 0) Operands.blank
  else
    let ot : Str := [wordByte w 2, wordByte w 1]
    .frame (schemaHeader [wordByte w 3] ot) (tableBody (wordByte w 0) (tableCount (wordByte w 3) ot (wordByte w 0)))

/-- The instruction the decoder reads from a word of the opcode table. -/
def decodeTableWord (nbits w : Nat) : Option Instr :=
  match decode (tableIssue nbits w) with
  | .ok i => some i
  | .error _ => none

/-- The word under which an issue stands in the opcode table: the OPSEL, or the 32-bit selector of R69. DESIGN CHOICE
(log 15): R69 gives no selector for an empty body, nor for a role or an `ot` of another width than 1 and 2 bytes; a byte
that is missing counts as 0x00, a byte past the width is dropped. -/
def issueWord : Issue → Nat
  | .command opsel _ => opsel.toNat
  | .frame header bodyText =>
    ((header.role.getD 0 0).toNat <<< 24) + ((header.ot.getD 0 0).toNat <<< 16) +
      ((header.ot.getD 1 0).toNat <<< 8) + (bodyText.getD 0 0).toNat

end Sys2Proof
end

