-- ==== Sys2Proof/Machine/State.lean ====
section
/-! DEFINITION. The machine's state. The block keeps nothing between two operations (spec/10_state.md R20 to R26):
State holds the parameters the spec leaves OPEN (R27), the transaction the host presents, and the response to the
transaction just answered. -/

namespace Sys2Proof.Machine

/-- The results of a successful transaction (R80), by their types. -/
inductive Results where
  /-- One byte string: B2H, CP2H, SEQ2H, H2B, PADR, REVENC, REVDEC, RTRN, SNDDEC, JOIN, CSUM, COMPOSE, WRAP. -/
  | str (s : Str)
  /-- One natural number: ADV, ADVS, SOCNT. -/
  | nat (n : Nat)
  /-- A bit sequence: H2BITS. -/
  | bits (v : Bits)
  /-- A list of byte strings: CHUNK, RENDER, SPLIT. -/
  | strList (l : List Str)
  /-- SNDENC: `otoa` and `field`. -/
  | sender (otoa field : Str)
  /-- CREATE: `next_trn` and `m`. -/
  | created (nextTrn : Nat) (m : Str)
  /-- PARSE: `header`, `body_text` and `checksum`. -/
  | parsed (header : Header) (bodyText checksum : Str)
  /-- DECODE: `header`, `body` and `checksum`. -/
  | decoded (header : Header) (body : Body) (checksum : Str)
  /-- PBODY and the FRAME rows: `body`. -/
  | body (b : Body)
deriving DecidableEq, Repr

/-- The response to one transaction (R25, R81): Status OK with the results, or another Status and nothing else (R232,
R233). -/
inductive Response where
  | ok (r : Results)
  | raised (e : Error)
deriving DecidableEq, Repr

/-- The reasons for which the machine stops with a fault: none. "The codec performs no retries and has no fatal
states" (R234), and "malformed input terminates via an error result, never a stall" (R190, R272): an error is a
Status in a next state. Safe: there is nothing to raise (log 32). -/
inductive Fault where
deriving DecidableEq, Repr

/-- The reasons for which an instruction is refused. -/
inductive Refusal where
  /-- The instruction has no meaning in the model yet. Raised by no arm of exec: every row has its meaning. Safe: a
  refusal proves nothing about the hardware. -/
  | notModelled (mnemonic : String)
deriving DecidableEq, Repr

/-- The machine. The block has no register, program counter, flag or memory (R20 to R27, R40). -/
structure State where
  /-- The configuration: fixed before the first operation, written by none (R27; log 1). -/
  params : Params
  /-- What the host presents (R14): nothing, or one transaction's operation and operands (log 11). -/
  issued : Option Issue
  /-- The response to the transaction just answered; nothing before the first (R25, R261; log 11). -/
  returned : Option Response
deriving DecidableEq, Repr

/-- The machine after reset (R32, R260, R261): the parameters at their defaults, no transaction in progress, no
Status (log 2 to 7, 16). -/
def State.reset : State where
  params := Params.default
  issued := none
  returned := none

end Sys2Proof.Machine
end

