-- ==== Sys2Proof/Machine/Ops.lean ====
section
/-! DEFINITION. The named operations over the state: presenting and taking up a transaction, answering it, raising an
error (the block's only kind of exception), and reset. -/

namespace Sys2Proof.Machine

/-- The host presents a transaction (R14). There is one place for it: presenting a second transaction before the first
is taken up replaces the first, and two hosts share the place and take turns (DESIGN CHOICE, log 37: R241 lets several
hosts issue concurrently and the spec has no handshake that says how, N4). -/
def State.present (s : State) (w : Issue) : State := { s with issued := some w }

/-- The block takes up the presented transaction: its operands are consumed with it and nothing of an earlier
response remains (R20, R25): a host reads its response before the next transaction is taken up (log 37). -/
def State.begun (s : State) : State := { s with issued := none, returned := none }

/-- The state in which a transaction has been answered. -/
def State.answered (s : State) (r : Response) : State := { s with returned := some r }

/-- `return v` of R11: the transaction ends with Status OK and its results. -/
def deliver (s : State) (r : Results) : Host.Outcome State Fault Refusal := .next (s.answered (.ok r))

/-- TAKING AN ERROR, `raise E` of R11 and R233: the transaction ends at once with Status E and no other result. No
state is saved, no mode changes, no control is transferred, no counter advances. There is no return from it (R234):
no handler, nothing to restore, and the next transaction is as if this one had not been. -/
def raise (s : State) (e : Error) : Host.Outcome State Fault Refusal := .next (s.answered (.raised e))

/-- The end of a transaction whose operation either has results or raises an error. -/
def answer (s : State) (outcome : Except Error Results) : Host.Outcome State Fault Refusal :=
  match outcome with
  | .ok r => deliver s r
  | .error e => raise s e

/-- Reset (R260): the transaction in progress is dropped without a result; the parameters hold their configured
values (R261; log 30). -/
def State.applyReset (s : State) : State := { s with issued := none, returned := none }

end Sys2Proof.Machine
end

