-- ==== Sys2Proof/Machine/HexBits.lean ====
section
/-! DEFINITION. The hex and bit utilities B2H, CP2H, SEQ2H, H2B, H2BITS, CHUNK, PADR
(spec/41_hex_bit_utilities.md). -/

namespace Sys2Proof.Machine

/-- CP2H (R101): four uppercase hex digits of a code point; above 0xFFFF nothing is defined (D18). -/
def codePointToHex (c : Nat) : Except Error Str :=
  if 0xFFFF < c then .error .undefinedInput
  else
    let v := BitVec.ofNat 16 c
    .ok [hexDigit (v.extractLsb' 12 4), hexDigit (v.extractLsb' 8 4), hexDigit (v.extractLsb' 4 4),
      hexDigit (v.extractLsb' 0 4)]

/-- The 4-digit form of every element (R102, the wide case). -/
def wideHex : CpSeq → Except Error Str
  | [] => .ok []
  | c :: cs =>
    match codePointToHex c, wideHex cs with
    | .ok h, .ok rest => .ok (h ++ rest)
    | _, _ => .error .undefinedInput

/-- SEQ2H (R102): two digits an element, or four for all of them when one exceeds 255. -/
def sequenceToHex (cps : CpSeq) : Except Error Str :=
  if cps.any (255 < ·) then wideHex cps
  else .ok (cps.flatMap fun c => byteToHex (BitVec.ofNat 8 c))

/-- H2B (R103): two hex digits a byte; odd length and any byte outside HEXDIG are outside its domain (D16). -/
def hexToBytes (h : Str) : Except Error Str :=
  match hexNibbles h with
  | none => .error .undefinedInput
  | some ns =>
    match nibblePairs ns with
    | none => .error .undefinedInput
    | some b => .ok b

/-- The four bits of a hex character, most significant first (R45, R104; D15, log 18). -/
def nibbleBits (n : BitVec 4) : Bits := [n.getLsbD 3, n.getLsbD 2, n.getLsbD 1, n.getLsbD 0]

/-- H2BITS (R104): four bits a character, in one stream; an odd number of characters is no error (R50). -/
def hexToBits (h : Str) : Except Error Bits :=
  match hexNibbles h with
  | none => .error .undefinedInput
  | some ns => .ok (ns.flatMap nibbleBits)

/-- Slices of `size` bytes, the last one what is left (the loop of R105), at most `fuel` of them. -/
def greedyCut (size : Nat) : Nat → Str → List Str
  | 0, _ => []
  | fuel + 1, b => if b = [] then [] else b.take size :: greedyCut size fuel (b.drop size)

/-- CHUNK (R105): the greedy cut (D17, log 20); a buffer no larger than `maxSize` is one chunk. -/
def chunkBytes (b : Str) (maxSize : Nat) : Except Error (List Str) :=
  if maxSize = 0 then .error .undefinedInput
  else if b.length ≤ maxSize then .ok [b]
  else .ok (greedyCut maxSize b.length b)

/-- PADR (R106): zero bytes up to the smallest multiple of `width`. -/
def padToMultiple (b : Str) (width : Nat) : Except Error Str :=
  if width = 0 then .error .undefinedInput
  else .ok (b ++ List.replicate ((width - b.length % width) % width) 0)

/-- B2H (R100). -/
def execB2h (b : Byte) (s : State) : Host.Outcome State Fault Refusal :=
  deliver s (.str (byteToHex b))

/-- CP2H (R101). -/
def execCp2h (c : Nat) (s : State) : Host.Outcome State Fault Refusal :=
  answer s ((codePointToHex c).map .str)

/-- SEQ2H (R102). -/
def execSeq2h (cps : CpSeq) (s : State) : Host.Outcome State Fault Refusal :=
  answer s ((sequenceToHex cps).map .str)

/-- H2B (R103). -/
def execH2b (h : Str) (s : State) : Host.Outcome State Fault Refusal :=
  answer s ((hexToBytes h).map .str)

/-- H2BITS (R104). -/
def execH2bits (h : Str) (s : State) : Host.Outcome State Fault Refusal :=
  answer s ((hexToBits h).map .bits)

/-- CHUNK (R105). -/
def execChunk (b : Str) (maxSize : Nat) (s : State) : Host.Outcome State Fault Refusal :=
  answer s ((chunkBytes b maxSize).map .strList)

/-- PADR (R106). -/
def execPadr (b : Str) (width : Nat) (s : State) : Host.Outcome State Fault Refusal :=
  answer s ((padToMultiple b width).map .str)

end Sys2Proof.Machine
end

