-- ==== Sys2Proof/Machine/Sender.lean ====
section
/-! DEFINITION. The sender address codec SNDENC, SNDDEC, SOCNT and its collaborators (spec/44_sender_address.md). -/

namespace Sys2Proof.Machine

/-! ### Collaborators -/

/-- The bit stream of R140 as one number: septet i at bits 7i to 7i+6. -/
def septetStream (w : Str) : Nat := w.foldr (fun b acc => b.toNat % 128 + acc <<< 7) 0

/-- The bit stream of R141 as one number: byte k at bits 8k to 8k+7. -/
def byteStream (b : Str) : Nat := b.foldr (fun c acc => c.toNat + acc <<< 8) 0

/-- The default PACK7 of R140 (general knowledge, G4: PRESUMED, log 4). -/
def defaultPack7 (w : Str) : Str :=
  (List.range ((7 * w.length + 7) / 8)).map fun k => BitVec.ofNat 8 (septetStream w >>> (8 * k))

/-- The default UNPACK7 of R141 (general knowledge, G5: PRESUMED, log 4): floor(8m/7) septets, none trimmed. -/
def defaultUnpack7 (b : Str) : Str :=
  (List.range ((8 * b.length) / 7)).map fun i => BitVec.ofNat 8 ((byteStream b >>> (7 * i)) % 128)

/-- PACK7 (R140) as configured. -/
def pack7 (p : Params) (w : Str) : Str :=
  match p.packer with
  | .specDefault => defaultPack7 w
  | .external => externalPack7 w

/-- UNPACK7 (R141) as configured. -/
def unpack7 (p : Params) (b : Str) : Str :=
  match p.packer with
  | .specDefault => defaultUnpack7 b
  | .external => externalUnpack7 b

/-- TO_WIRE (R142) as configured; the default is the identity (D4, log 5). -/
def toWire (p : Params) (text : Str) : Str :=
  match p.transcoder with
  | .specDefault => text
  | .external => externalToWire text

/-- TO_LOCAL (R142) as configured; the default is the identity (D4, log 5). -/
def toLocal (p : Params) (text : Str) : Str :=
  match p.transcoder with
  | .specDefault => text
  | .external => externalToLocal text

/-! ### Operations -/

/-- The scan of R143: a pair whose first character is `0` counts 1, any other pair 2. -/
def semiOctetScan : Str → Nat
  | a :: _ :: rest => (if a = 0x30 then 1 else 2) + semiOctetScan rest
  | _ => 0

/-- SOCNT (R143): defined for even length (D22). -/
def semiOctetCount (h : Str) : Except Error Nat :=
  if h.length % 2 = 1 then .error .undefinedInput else .ok (semiOctetScan h)

/-- SNDENC (R144): an all-digit text stands as it is; any other is transcoded, packed, hex-encoded and prefixed with
its count, which must fit two hex digits (D22, log 35). -/
def encodeSender (p : Params) (text : Str) : Except Error (Str × Str) :=
  if text.all isDigit then .ok ([], text)
  else
    let h := hexText (pack7 p (toWire p text))
    match semiOctetCount h with
    | .error e => .error e
    | .ok c =>
      if 255 < c then .error .undefinedInput
      else .ok (ALNUM_OTOA, byteToHex (BitVec.ofNat 8 c) ++ h)

/-- SNDDEC (R145): for type 5039 the two prefix characters are dropped unread and the rest is hex-decoded, unpacked
and transcoded; any other field stands as it is. Too short, odd or not hex is outside its domain (D23, log 35). -/
def decodeSender (p : Params) (otoa field : Str) : Except Error Str :=
  if otoa ≠ ALNUM_OTOA then .ok field
  else if field.length < 2 then .error .undefinedInput
  else
    match hexToBytes (field.drop 2) with
    | .error e => .error e
    | .ok b => .ok (toLocal p (unpack7 p b))

/-- SNDENC (R144). -/
def execSndenc (text : Str) (s : State) : Host.Outcome State Fault Refusal :=
  answer s ((encodeSender s.params text).map fun r => .sender r.1 r.2)

/-- SNDDEC (R145). -/
def execSnddec (otoa field : Str) (s : State) : Host.Outcome State Fault Refusal :=
  answer s ((decodeSender s.params otoa field).map .str)

/-- SOCNT (R143). -/
def execSocnt (h : Str) (s : State) : Host.Outcome State Fault Refusal :=
  answer s ((semiOctetCount h).map .nat)

end Sys2Proof.Machine
end

