-- ==== Sys2Proof/Machine/BodyDispatch.lean ====
section
/-! DEFINITION. The body schema dispatcher PBODY (spec/47_body_dispatch.md). -/

namespace Sys2Proof.Machine

/-- ParseO31 (R201). -/
def parseO31 (f : List Str) : Except Error Body :=
  if f.length ≠ 2 then .error .invalidCommandSyntax
  else .ok (.addressInfoRequest { adc := fieldAt f 0, pid := fieldAt f 1 })

/-- ParseO60 (R202): `pwd` and `npwd` pass through TO_LOCAL (D30, log 24). -/
def parseO60 (p : Params) (f : List Str) : Except Error Body :=
  if f.length ≠ 12 then .error .invalidCommandSyntax
  else .ok (.sessionRequest {
    oadc := fieldAt f 0, oton := fieldAt f 1, onpi := fieldAt f 2, styp := fieldAt f 3,
    pwd := toLocal p (fieldAt f 4), npwd := toLocal p (fieldAt f 5),
    vers := fieldAt f 6, ladc := fieldAt f 7, lton := fieldAt f 8, lnpi := fieldAt f 9,
    opid := fieldAt f 10, res1 := fieldAt f 11 })

/-- ParseO5x (R203): `oadc` passes through SNDDEC with `otoa`, and an undecodable one is invalid_command_syntax
(D29, log 23). -/
def parseO5x (p : Params) (f : List Str) : Except Error Body :=
  if f.length ≠ 33 then .error .invalidCommandSyntax
  else
    match decodeSender p (fieldAt f 28) (fieldAt f 1) with
    | .error _ => .error .invalidCommandSyntax
    | .ok sender => .ok (.submitShortMessage {
        adc := fieldAt f 0, oadc := sender, ac := fieldAt f 2, nrq := fieldAt f 3, nadc := fieldAt f 4,
        nt := fieldAt f 5, npid := fieldAt f 6, lrq := fieldAt f 7, lrad := fieldAt f 8, lpid := fieldAt f 9,
        dd := fieldAt f 10, ddt := fieldAt f 11, vp := fieldAt f 12, rpid := fieldAt f 13, scts := fieldAt f 14,
        dst := fieldAt f 15, rsn := fieldAt f 16, dscts := fieldAt f 17, mt := fieldAt f 18, nb := fieldAt f 19,
        msg := fieldAt f 20, mms := fieldAt f 21, pr := fieldAt f 22, dcs := fieldAt f 23, mcls := fieldAt f 24,
        rpi := fieldAt f 25, cpg := fieldAt f 26, rply := fieldAt f 27, otoa := fieldAt f 28,
        hplmn := fieldAt f 29, xser := fieldAt f 30, res4 := fieldAt f 31, res5 := fieldAt f 32 })

/-- The three response schemas (R204 to R206), told apart by count and marker together (R208). -/
def parseResponse (f : List Str) : Except Error Body :=
  if f.length = 2 ∧ fieldAt f 0 = MARK_A then .ok (.ack { mvp := none, sm := fieldAt f 1 })
  else if f.length = 3 ∧ fieldAt f 0 = MARK_A then .ok (.ack { mvp := some (fieldAt f 1), sm := fieldAt f 2 })
  else if f.length = 3 ∧ fieldAt f 0 = MARK_N then .ok (.nack { ec := fieldAt f 1, sm := fieldAt f 2 })
  else .error .unsupportedOperation

/-- PBODY (R200): role first, then for role O the operation type, then the field count (R208). -/
def parseBody (p : Params) (header : Header) (bodyText : Str) : Except Error Body :=
  let f := splitFields bodyText
  if header.role = ROLE_O then
    if header.ot = OT_31 then parseO31 f
    else if header.ot = OT_60 then parseO60 p f
    else if header.ot = OT_51 ∨ header.ot = OT_52 ∨ header.ot = OT_53 then parseO5x p f
    else .error .unsupportedOperation
  else if header.role = ROLE_R then parseResponse f
  else .error .unsupportedOperation

/-- PBODY (R200). -/
def execPbody (header : Header) (bodyText : Str) (s : State) : Host.Outcome State Fault Refusal :=
  answer s ((parseBody s.params header bodyText).map .body)

end Sys2Proof.Machine
end

