-- ==== Sys2Proof/Machine/Counters.lean ====
section
/-! DEFINITION. The sequence counters ADV, ADVS, RTRN (spec/43_sequence_counters.md). The counters themselves are the
host's (spec/00_scope.md R5 (e): log 17). -/

namespace Sys2Proof.Machine

/-- ADV (R130). -/
def advanceCounter (value min max : Nat) : Nat := if max ≤ value then min else value + 1

/-- ADVS (R131): the decimal string is made a number first; any other string is outside its domain (D20). -/
def advanceDecimal (value : Str) (min max : Nat) : Except Error Nat :=
  match decimalValue value with
  | none => .error .undefinedInput
  | some v => .ok (advanceCounter v min max)

/-- RTRN (R132): two decimal digits; above 99 nothing is defined (D21). -/
def renderTrn (value : Nat) : Except Error Str :=
  if 99 < value then .error .undefinedInput else .ok (dec 2 value)

/-- ADV (R130). -/
def execAdv (value min max : Nat) (s : State) : Host.Outcome State Fault Refusal :=
  deliver s (.nat (advanceCounter value min max))

/-- ADVS (R131). -/
def execAdvs (value : Str) (min max : Nat) (s : State) : Host.Outcome State Fault Refusal :=
  answer s ((advanceDecimal value min max).map .nat)

/-- RTRN (R132). -/
def execRtrn (value : Nat) (s : State) : Host.Outcome State Fault Refusal :=
  answer s ((renderTrn value).map .str)

end Sys2Proof.Machine
end

