-- ==== Sys2Proof/Machine/Composer.lean ====
section
/-! DEFINITION. The frame composer and checksum unit JOIN, CSUM, COMPOSE, WRAP, CREATE, RENDER
(spec/45_frame_composer.md). The texts of JOIN and RENDER are in Machine/Operands.lean. -/

namespace Sys2Proof.Machine

/-- CSUM (R161): the byte sum modulo 256, the carry dropped at every step, as two hex digits. -/
def checksum (m : Str) : Str := byteToHex (m.foldl (fun t c => t + c) 0)

/-- The five zeros that stand for `len` while the length is counted (R162; D24, log 31). -/
def PROVISIONAL_LEN : Str := [0x30, 0x30, 0x30, 0x30, 0x30]

/-- COMPOSE (R162): the five steps; a length above 99999 does not fit the field (D24, log 31). -/
def composeMessage (trn role ot : Str) (bodyFields : List Str) : Except Error Str :=
  let body := joinFields bodyFields
  let provisional := joinFields [trn, PROVISIONAL_LEN, role, ot] ++ SEP :: body
  let n := provisional.length + 3
  if MAX_LEN < n then .error .undefinedInput
  else
    let unchecked := joinFields [trn, dec 5 n, role, ot] ++ SEP :: body ++ [SEP]
    .ok (unchecked ++ checksum unchecked)

/-- WRAP (R163). -/
def wrapMessage (p : Params) (m : Str) : Str := p.stx :: m ++ [p.etx]

/-- CREATE (R164): the counter is advanced, the header carries the advanced value (D25, log 22), the role is O. -/
def createMessage (p : Params) (currentTrn : Nat) (ot : Str) (bodyFields : List Str) : Except Error (Nat × Str) :=
  let nextTrn := advanceCounter currentTrn p.trnMin p.trnMax
  match renderTrn nextTrn with
  | .error e => .error e
  | .ok trn =>
    match composeMessage trn ROLE_O ot bodyFields with
    | .error e => .error e
    | .ok m => .ok (nextTrn, m)

/-- JOIN (R160). -/
def execJoin (l : List Str) (s : State) : Host.Outcome State Fault Refusal :=
  deliver s (.str (joinFields l))

/-- CSUM (R161). -/
def execCsum (m : Str) (s : State) : Host.Outcome State Fault Refusal :=
  deliver s (.str (checksum m))

/-- COMPOSE (R162). -/
def execCompose (trn role ot : Str) (bodyFields : List Str) (s : State) : Host.Outcome State Fault Refusal :=
  answer s ((composeMessage trn role ot bodyFields).map .str)

/-- WRAP (R163). -/
def execWrap (m : Str) (s : State) : Host.Outcome State Fault Refusal :=
  deliver s (.str (wrapMessage s.params m))

/-- CREATE (R164). -/
def execCreate (currentTrn : Nat) (ot : Str) (bodyFields : List Str) (s : State) : Host.Outcome State Fault Refusal :=
  answer s ((createMessage s.params currentTrn ot bodyFields).map fun r => .created r.1 r.2)

/-- RENDER (R165): every field as it stands; the host has encoded the sender before (D26, log 34). -/
def execRender (body : Body) (s : State) : Host.Outcome State Fault Refusal :=
  deliver s (.strList (renderBody body))

end Sys2Proof.Machine
end

