-- ==== Sys2Proof/Machine/FrameSchemas.lean ====
section
/-! DEFINITION. The eight frame schemas of spec/30_encoding.md R69 as instructions: what the dispatcher does with a
frame that selects each (spec/47_body_dispatch.md R201 to R206; log 14). -/

namespace Sys2Proof.Machine

/-- O/31 AddressInfoRequest (R201). -/
def execFrameO31 (fields : List Str) (s : State) : Host.Outcome State Fault Refusal :=
  answer s ((parseO31 fields).map .body)

/-- O/60 SessionRequest (R202). -/
def execFrameO60 (fields : List Str) (s : State) : Host.Outcome State Fault Refusal :=
  answer s ((parseO60 s.params fields).map .body)

/-- O/51 SubmitShortMessage (R203). -/
def execFrameO51 (fields : List Str) (s : State) : Host.Outcome State Fault Refusal :=
  answer s ((parseO5x s.params fields).map .body)

/-- O/52 SubmitShortMessage (R203). -/
def execFrameO52 (fields : List Str) (s : State) : Host.Outcome State Fault Refusal :=
  answer s ((parseO5x s.params fields).map .body)

/-- O/53 SubmitShortMessage (R203). -/
def execFrameO53 (fields : List Str) (s : State) : Host.Outcome State Fault Refusal :=
  answer s ((parseO5x s.params fields).map .body)

/-- R with 2 fields and marker A: Ack without `mvp` (R204). -/
def execFrameRAck2 (_ot sm : Str) (s : State) : Host.Outcome State Fault Refusal :=
  deliver s (.body (.ack { mvp := none, sm := sm }))

/-- R with 3 fields and marker A: Ack with `mvp`, present even when empty (R205). -/
def execFrameRAck3 (_ot mvp sm : Str) (s : State) : Host.Outcome State Fault Refusal :=
  deliver s (.body (.ack { mvp := some mvp, sm := sm }))

/-- R with 3 fields and marker N: Nack (R206). -/
def execFrameRNack (_ot ec sm : Str) (s : State) : Host.Outcome State Fault Refusal :=
  deliver s (.body (.nack { ec := ec, sm := sm }))

end Sys2Proof.Machine
end

