-- ==== Sys2Proof/Machine/Parser.lean ====
section
/-! DEFINITION. The frame parser and validator SPLIT, PARSE, DECODE (spec/46_frame_parser.md). -/

namespace Sys2Proof.Machine

/-- Parser step 1 (R182): the start delimiter and a whole header region. -/
def startsFrame (p : Params) (buf : Str) : Bool :=
  1 + HEADER_LEN ≤ buf.length && buf[0]? == some p.stx

/-- Parser step 2 (R183) in both readings of ETX_CHECK (D5, log 6): the error it raises, if any. -/
def endError (p : Params) (buf : Str) : Option Error :=
  match p.etxCheck with
  | .firstEtx =>
    match buf.findIdx? (· == p.etx) with
    | none => some .invalidMessage
    | some e => if e + 1 = buf.length then none else some .messageTooLong
  | .lastByte => if buf.getLast? = some p.etx then none else some .messageTooLong

/-- The header region (R184): the 13 bytes after the start delimiter. -/
def headerRegion (buf : Str) : Str := slice buf 1 (1 + HEADER_LEN)

/-- The body length that the `len` field declares (R185): the value less 17, nothing when the field is not a decimal
number or declares fewer than 17 bytes (D27, log 28). -/
def declaredBodyLength (lenField : Str) : Option Nat :=
  match decimalValue lenField with
  | none => none
  | some d => if d < HEADER_LEN + CHECKSUM_LEN + 2 then none else some (d - HEADER_LEN - CHECKSUM_LEN - 2)

/-- The byte pattern of R185: the buffer is carved by a body of `bodyLength` bytes. -/
def carves (p : Params) (buf : Str) (bodyLength : Nat) : Bool :=
  buf.length == 1 + HEADER_LEN + 1 + bodyLength + 1 + CHECKSUM_LEN + 1 &&
  buf[0]? == some p.stx &&
  buf[1 + HEADER_LEN]? == some SEP &&
  buf[2 + HEADER_LEN + bodyLength]? == some SEP &&
  buf.getLast? == some p.etx

/-- Parser step 4 (R185): the body length, nothing when the declared length does not carve the frame. -/
def carvedLength (p : Params) (buf lenField : Str) : Option Nat :=
  match declaredBodyLength lenField with
  | none => none
  | some bodyLength => if carves p buf bodyLength then some bodyLength else none

/-- PARSE (R181): the four steps in order, the first that fails decides (R235). The header's widths (D34, log 28) and
the checksum (R188; D28, log 25) are not verified. -/
def parseFrame (p : Params) (buf : Str) : Except Error (Header × Str × Str) :=
  if startsFrame p buf then
    match endError p buf with
    | some e => .error e
    | none =>
      match splitFields (headerRegion buf) with
      | [trn, len, role, ot] =>
        match carvedLength p buf len with
        | none => .error .invalidMessage
        | some bodyLength =>
          .ok ({ trn := trn, len := len, role := role, ot := ot },
            slice buf (2 + HEADER_LEN) (2 + HEADER_LEN + bodyLength),
            slice buf (3 + HEADER_LEN + bodyLength) (3 + HEADER_LEN + bodyLength + CHECKSUM_LEN))
      | _ => .error .invalidHeader
  else .error .invalidMessage

/-- DECODE (R189): PARSE, then PBODY; an error of PARSE precedes every error of PBODY. -/
def decodeFrame (p : Params) (buf : Str) : Except Error (Header × Body × Str) :=
  match parseFrame p buf with
  | .error e => .error e
  | .ok (header, bodyText, sum) =>
    match parseBody p header bodyText with
    | .error e => .error e
    | .ok body => .ok (header, body, sum)

/-- SPLIT (R180). -/
def execSplit (text : Str) (s : State) : Host.Outcome State Fault Refusal :=
  deliver s (.strList (splitFields text))

/-- PARSE (R181). -/
def execParse (buf : Str) (s : State) : Host.Outcome State Fault Refusal :=
  answer s ((parseFrame s.params buf).map fun r => .parsed r.1 r.2.1 r.2.2)

/-- DECODE (R189). -/
def execDecode (buf : Str) (s : State) : Host.Outcome State Fault Refusal :=
  answer s ((decodeFrame s.params buf).map fun r => .decoded r.1 r.2.1 r.2.2)

end Sys2Proof.Machine
end

