-- ==== Sys2Proof/Machine/Reversal.lean ====
section
/-! DEFINITION. The semi-octet reversal codec REVENC, REVDEC (spec/42_semi_octet_reversal.md), written to the worked
examples, which win over the prose (spec/90_conflicts.md C1 to C3: log 21). -/

namespace Sys2Proof.Machine

/-- REVENC (R120): each pair of characters swapped; a lone last character stands after the filler. -/
def reverseEncode : Str → Str
  | [] => []
  | [x] => [FILLER, x]
  | a :: b :: rest => b :: a :: reverseEncode rest

/-- The domain of REVDEC (R121): even length, and the filler nowhere but at the last index but one. -/
def reverseDecodable (r : Str) : Bool :=
  r.length % 2 == 0 && (List.range r.length).all fun i => r.getD i 0 != FILLER || i + 2 == r.length

/-- The pairs of REVDEC (R121) swapped back, the filler of the final pair dropped. -/
def swapBack : Str → Str
  | [] => []
  | [x] => [x]
  | [a, b] => if a = FILLER then [b] else [b, a]
  | a :: b :: rest => b :: a :: swapBack rest

/-- REVDEC (R121). -/
def reverseDecode (r : Str) : Except Error Str :=
  if reverseDecodable r then .ok (swapBack r) else .error .undefinedInput

/-- REVENC (R120). -/
def execRevenc (digits : Str) (s : State) : Host.Outcome State Fault Refusal :=
  deliver s (.str (reverseEncode digits))

/-- REVDEC (R121). -/
def execRevdec (r : Str) (s : State) : Host.Outcome State Fault Refusal :=
  answer s ((reverseDecode r).map .str)

end Sys2Proof.Machine
end

