-- ==== Sys2Proof/Machine/Dispatch.lean ====
section
/-! DEFINITION. One arm per row of spec/opcode_table.json. -/

namespace Sys2Proof.Machine

def exec (i : Instr) (s : State) : Host.Outcome State Fault Refusal :=
  match i with
  | .b2h b => Sys2Proof.Machine.execB2h b s
  | .cp2h c => Sys2Proof.Machine.execCp2h c s
  | .seq2h cps => Sys2Proof.Machine.execSeq2h cps s
  | .h2b h => Sys2Proof.Machine.execH2b h s
  | .h2bits h => Sys2Proof.Machine.execH2bits h s
  | .chunk b maxSize => Sys2Proof.Machine.execChunk b maxSize s
  | .padr b width => Sys2Proof.Machine.execPadr b width s
  | .revenc digits => Sys2Proof.Machine.execRevenc digits s
  | .revdec r => Sys2Proof.Machine.execRevdec r s
  | .adv value min max => Sys2Proof.Machine.execAdv value min max s
  | .advs value min max => Sys2Proof.Machine.execAdvs value min max s
  | .rtrn value => Sys2Proof.Machine.execRtrn value s
  | .sndenc text => Sys2Proof.Machine.execSndenc text s
  | .snddec otoa field => Sys2Proof.Machine.execSnddec otoa field s
  | .socnt h => Sys2Proof.Machine.execSocnt h s
  | .join l => Sys2Proof.Machine.execJoin l s
  | .csum m => Sys2Proof.Machine.execCsum m s
  | .compose trn role ot bodyFields => Sys2Proof.Machine.execCompose trn role ot bodyFields s
  | .wrap m => Sys2Proof.Machine.execWrap m s
  | .create currentTrn ot bodyFields => Sys2Proof.Machine.execCreate currentTrn ot bodyFields s
  | .render body => Sys2Proof.Machine.execRender body s
  | .parse buf => Sys2Proof.Machine.execParse buf s
  | .split text => Sys2Proof.Machine.execSplit text s
  | .decode buf => Sys2Proof.Machine.execDecode buf s
  | .pbody header bodyText => Sys2Proof.Machine.execPbody header bodyText s
  | .frameO31 fields => Sys2Proof.Machine.execFrameO31 fields s
  | .frameO60 fields => Sys2Proof.Machine.execFrameO60 fields s
  | .frameO51 fields => Sys2Proof.Machine.execFrameO51 fields s
  | .frameO52 fields => Sys2Proof.Machine.execFrameO52 fields s
  | .frameO53 fields => Sys2Proof.Machine.execFrameO53 fields s
  | .frameRAck2 ot sm => Sys2Proof.Machine.execFrameRAck2 ot sm s
  | .frameRAck3 ot mvp sm => Sys2Proof.Machine.execFrameRAck3 ot mvp sm s
  | .frameRNack ot ec sm => Sys2Proof.Machine.execFrameRNack ot ec sm s

end Sys2Proof.Machine
end

