-- ==== Sys2Proof/Machine/Fetch.lean ====
section
/-! DEFINITION. Taking up what the host presents: the part of a step that comes before the instruction runs. -/

namespace Sys2Proof.Machine

/-- The lengths of the operand buffers that the host presents (R41; log 7). A frame's header and body text are the
operands of PBODY (R200) and are measured as those. A reserved OPSEL has none: it is decided before any operand is
looked at (R235). -/
def issueLengths : Issue → List Nat
  | .command opsel operands =>
    match decodeCommand opsel operands with
    | .ok i => operandLengths i
    | .error _ => []
  | .frame header bodyText => operandLengths (.pbody header bodyText)

/-- Whether every presented operand buffer fits the capacity MAX_BUF (R41). -/
def fitsCapacity (maxBuf : Option Nat) (w : Issue) : Bool :=
  match maxBuf with
  | none => true
  | some n => (issueLengths w).all (· ≤ n)

/-- What the block finds presented. -/
inductive Fetched where
  /-- Nothing is presented: which operation runs next is entirely the host's choice (R24). -/
  | idle
  /-- The transaction is rejected before it runs: an operand longer than the buffer (R41), a reserved OPSEL (R82), or
  a frame no schema takes (R207). -/
  | rejected (e : Error)
  /-- An instruction to run. -/
  | run (i : Instr)
deriving DecidableEq, Repr

/-- The capacity of the operand buffers, which refuses and never truncates (R41, U30), then decoding. DESIGN CHOICE
(log 7): the Status of the refusal is UNDEFINED_INPUT, and R235, which orders the errors, gives the refusal no place:
here it stands after a reserved OPSEL, which R235 puts before any operand, and before every other error, that of a frame
no schema takes among them. -/
def fetch (s : State) : Fetched :=
  match s.issued with
  | none => .idle
  | some w =>
    if fitsCapacity s.params.maxBuf w then
      match decode w with
      | .error e => .rejected e
      | .ok i => .run i
    else .rejected .undefinedInput

end Sys2Proof.Machine
end

