-- ==== Sys2Proof/Machine/Step.lean ====
section
/-! DEFINITION. One step: one transaction (spec/00_scope.md R14, spec/20_memory.md R54), or nothing where the host
presents nothing. -/

namespace Sys2Proof.Machine

/-- One step. With nothing presented the block waits and nothing changes (R24; log 12). -/
def step (s : State) : Host.Outcome State Fault Refusal :=
  match fetch s with
  | .idle => .next s
  | .rejected e => raise s.begun e
  | .run i => exec i s.begun

/-- The state in which the host presents a word of spec/opcode_table.json: an OPSEL with blank operands, or a frame
(Decode.lean's `tableIssue`: log 13, 15). -/
def State.withFetchWord (s : State) (nbits w : Nat) : State := s.present (tableIssue nbits w)

end Sys2Proof.Machine
end

