-- ==== Sys2Proof/Machine/Flags.lean ====
section
/-! DEFINITION. The block has no flag and no condition code; what it has is the Status of each transaction
(spec/10_state.md R25), numbered by spec/30_encoding.md R81. -/

namespace Sys2Proof.Machine

/-- The Status number of an error (R81; the numbers are the spec's own: D10, log 9). -/
def errorCode : Error → Nat
  | .invalidMessage => 1
  | .messageTooLong => 2
  | .invalidHeader => 3
  | .invalidCommandSyntax => 4
  | .unsupportedOperation => 5
  | .undefinedInput => 14
  | .illegalOp => 15

/-- The Status number of a response (R81): 0 for OK. -/
def statusCode : Response → Nat
  | .ok _ => 0
  | .raised e => errorCode e

/-- The results a response delivers: those of OK, none with any other Status (R232, R233). -/
def deliveredResults : Response → Option Results
  | .ok r => some r
  | .raised _ => none

end Sys2Proof.Machine
end

