-- ==== Sys2Proof/Machine/Pseudo.lean ====
section
/-! DEFINITION. The pseudo-operations of spec/30_encoding.md R83: abbreviations, not further hardware. -/

namespace Sys2Proof.Machine

/-- TRNADV(v) = ADV(v, TRN_MIN, TRN_MAX) (R83, R133). -/
def trnAdv (p : Params) (v : Nat) : Instr := .adv v p.trnMin p.trnMax

/-- REFADV(v) = ADV(v, REF_MIN, REF_MAX) (R83, R133). -/
def refAdv (p : Params) (v : Nat) : Instr := .adv v p.refMin p.refMax

/-- FRAME(trn, role, ot, fields) = WRAP(COMPOSE(trn, role, ot, fields)) (R83). -/
def wholeFrame (p : Params) (trn role ot : Str) (bodyFields : List Str) : Except Error Str :=
  (composeMessage trn role ot bodyFields).map (wrapMessage p)

end Sys2Proof.Machine
end

