-- ==== Sys2Proof/Safety.lean ====
section
/-! DEFINITION. What a safe run is, in the terms the statements use: which errors an instruction may return, what
every delivered result is like, and the invariant of a state. -/

namespace Sys2Proof.Machine

/-- The errors that the rules let an instruction raise (R231, R236): no other Status but OK may come back from it.
PARSE raises the three frame errors, PBODY the two body errors, DECODE those five and never UNDEFINED_INPUT (R189). -/
def mayRaise : Instr → List Error
  | .b2h _ => []
  | .cp2h _ => [.undefinedInput]
  | .seq2h _ => [.undefinedInput]
  | .h2b _ => [.undefinedInput]
  | .h2bits _ => [.undefinedInput]
  | .chunk _ _ => [.undefinedInput]
  | .padr _ _ => [.undefinedInput]
  | .revenc _ => []
  | .revdec _ => [.undefinedInput]
  | .adv _ _ _ => []
  | .advs _ _ _ => [.undefinedInput]
  | .rtrn _ => [.undefinedInput]
  | .sndenc _ => [.undefinedInput]
  | .snddec _ _ => [.undefinedInput]
  | .socnt _ => [.undefinedInput]
  | .join _ => []
  | .csum _ => []
  | .compose _ _ _ _ => [.undefinedInput]
  | .wrap _ => []
  | .create _ _ _ => [.undefinedInput]
  | .render _ => []
  | .parse _ => [.invalidMessage, .messageTooLong, .invalidHeader]
  | .split _ => []
  | .decode _ =>
    [.invalidMessage, .messageTooLong, .invalidHeader, .invalidCommandSyntax, .unsupportedOperation]
  | .pbody _ _ => [.invalidCommandSyntax, .unsupportedOperation]
  | .frameO31 _ => [.invalidCommandSyntax]
  | .frameO60 _ => [.invalidCommandSyntax]
  | .frameO51 _ => [.invalidCommandSyntax]
  | .frameO52 _ => [.invalidCommandSyntax]
  | .frameO53 _ => [.invalidCommandSyntax]
  | .frameRAck2 _ _ => []
  | .frameRAck3 _ _ _ => []
  | .frameRNack _ _ _ => []

/-- A header that PARSE returns: four fields without a separator that fill the 13-byte region with it, and a `len`
that is a decimal number (R184, R185, R190). -/
def headerSound (h : Header) : Prop :=
  (headerFields h).all noSep ∧
  h.trn.length + h.len.length + h.role.length + h.ot.length + 3 = HEADER_LEN ∧
  (decimalValue h.len).isSome

/-- A body is of the variant that the header selects (R29, R200). -/
def bodyMatches (h : Header) : Body → Prop
  | .addressInfoRequest _ => h.role = ROLE_O ∧ h.ot = OT_31
  | .sessionRequest _ => h.role = ROLE_O ∧ h.ot = OT_60
  | .submitShortMessage _ => h.role = ROLE_O ∧ (h.ot = OT_51 ∨ h.ot = OT_52 ∨ h.ot = OT_53)
  | .ack _ => h.role = ROLE_R
  | .nack _ => h.role = ROLE_R

/-- What every delivered result is like, whatever operation delivered it: bits come in fours (R104), a list is never
empty (R105, R165, R180), an alphanumeric sender is hex text with its type, a numeric one digits (R144), a created
message carries a TRN at most TRN_MAX (R134, R164), a parsed frame has a 2-byte checksum and the length its header
declares (R181, R185), a decoded body is of the variant its header selects (R200). -/
def resultsSound (p : Params) : Results → Prop
  | .str _ => True
  | .nat _ => True
  | .bits v => v.length % 4 = 0
  | .strList l => l ≠ []
  | .sender otoa field =>
    (otoa = [] ∧ field.all isDigit) ∨
    (otoa = ALNUM_OTOA ∧ 2 ≤ field.length ∧ field.length % 2 = 0 ∧ field.all isHexDigit)
  | .created nextTrn _ => nextTrn ≤ p.trnMax
  | .parsed h bodyText sum =>
    headerSound h ∧ decimalValue h.len = some (bodyText.length + 17) ∧ sum.length = CHECKSUM_LEN
  | .decoded h b sum => headerSound h ∧ bodyMatches h b ∧ sum.length = CHECKSUM_LEN
  | .body _ => True

/-- The invariant of a state: the parameters are legal (R8, R27), and a response that is OK is sound. -/
def State.Inv (s : State) : Prop :=
  s.params.Legal ∧ ∀ r, s.returned = some (.ok r) → resultsSound s.params r

/-- Parser step 2 passes (R183): under FIRST_ETX the last byte is ETX and no byte before it, under LAST_BYTE the last
byte is ETX. -/
def endsFrame (p : Params) (buf : Str) : Prop :=
  match p.etxCheck with
  | .firstEtx => buf.getLast? = some p.etx ∧ p.etx ∉ buf.dropLast
  | .lastByte => buf.getLast? = some p.etx

/-- A run of k steps that ends in a next state: no fault, no refusal. -/
def runsOn (k : Nat) (s : State) : Prop :=
  match k with
  | 0 => True
  | k + 1 => ∃ t, step s = .next t ∧ runsOn k t

end Sys2Proof.Machine
end

