-- ==== Sys2Proof/Certificates/Slice0/Obligations.lean ====
section
/-! DEFINITION. The statements for the provers, from the numbered rules of spec/. A conclusion
`exec i s = .next { s with returned := some (.ok r) }` says that instruction i completes in s, with which results,
and that nothing else of the state changes: neither the parameters (R27) nor what is presented. -/

open Sys2Proof Sys2Proof.Machine

/-! ### The machine -/

/-- Where a presented transaction fits MAX_BUF and decodes to an instruction, the step runs that instruction in the state
from which the transaction has been taken up. The taking up is the model's own form of a transaction (log 11), and so is
how the operands are measured (log 7). -/
def Obligations.StepRunsTheDecodedInstruction : Prop :=
  ∀ (s : State) (w : Issue) (i : Instr), s.issued = some w → fitsCapacity s.params.maxBuf w = true →
    decode w = .ok i → step s = exec i { s with issued := none, returned := none }

/-- A step with nothing presented changes nothing (the model's choice: log 12). -/
def Obligations.NothingPresentedChangesNothing : Prop :=
  ∀ s : State, s.issued = none → step s = .next s

/-- Every presented transaction, well formed or malformed, is answered by one step with one response, and the step
changes no parameter (R14, R27, R272). -/
def Obligations.EveryTransactionIsAnswered : Prop :=
  ∀ (s : State) (w : Issue), s.issued = some w →
    ∃ r : Response, step s = .next { s with issued := none, returned := some r }

/-- A run of any length from any state meets no fault and no refusal: the codec has no fatal states (R234). -/
def Obligations.RunFromAnyStateNeverStops : Prop :=
  ∀ (k : Nat) (s : State), runsOn k s

/-- R20 and R53: the response depends on the operation, its operands and the parameters only, and a transaction
leaves nothing behind that a later one could observe, so that it can be repeated and gives the same response. -/
def Obligations.TransactionsLeaveNoTrace : Prop :=
  (∀ (s t : State) (w : Issue), s.params = t.params → s.issued = some w → t.issued = some w →
    ∃ r : Response, step s = .next { s with issued := none, returned := some r } ∧
      step t = .next { t with issued := none, returned := some r }) ∧
  (∀ (s : State) (w w' : Issue), s.issued = some w →
    ∃ t : State, step s = .next t ∧ step (t.present w') = step (s.present w')) ∧
  (∀ (s : State) (w : Issue), s.issued = some w →
    ∃ t t' : State, step s = .next t ∧ step (t.present w) = .next t' ∧ t'.returned = t.returned)

/-- A reserved OPSEL answers ILLEGAL_OP, whatever the operands (R82; the codes are the spec's own, D9: log 9, 10). -/
def Obligations.ReservedOpselAnswersIllegalOp : Prop :=
  ∀ (s : State) (opsel : Byte) (operands : Operands),
    opsel.toNat ∉ [0x10, 0x11, 0x12, 0x13, 0x14, 0x15, 0x16, 0x20, 0x21, 0x30, 0x31, 0x32, 0x40, 0x41, 0x42,
      0x50, 0x51, 0x52, 0x53, 0x54, 0x55, 0x60, 0x61, 0x62, 0x70] →
    s.issued = some (.command opsel operands) →
    step s = .next { s with issued := none, returned := some (.raised .illegalOp) }

/-- An operand longer than MAX_BUF is refused, not truncated (R41), in both formats and before any other error but that
of a reserved OPSEL, which has no operand to measure. That the Status is UNDEFINED_INPUT, how lengths are measured and
where the refusal stands among the errors are the model's choice (log 7). -/
def Obligations.OversizedOperandIsRefused : Prop :=
  ∀ (s : State) (w : Issue) (n : Nat), s.issued = some w →
    s.params.maxBuf = some n → (∃ k ∈ issueLengths w, n < k) →
    step s = .next { s with issued := none, returned := some (.raised .undefinedInput) }

/-- A frame handed to the dispatcher is answered as PBODY answers its header and body text, whatever MAX_BUF is: the
eight schemas, everything else, and the refusal of a long operand (R69, R200; frames as instructions are the model's
form: log 14; the refusal: log 7). -/
def Obligations.FrameIssueAnswersAsPbody : Prop :=
  ∀ (s : State) (h : Header) (bodyText : Str) (operands : Operands),
    step (s.present (.frame h bodyText)) =
      step (s.present (.command 0x70 { operands with header := h, bodyText := bodyText }))

/-- Reset drops the transaction in progress without a result, keeps the parameters, and the next transaction is
answered as at any other time (R260; the spec's own, D14: log 30). -/
def Obligations.ResetDropsTheTransaction : Prop :=
  ∀ (s : State) (w : Issue),
    s.applyReset.issued = none ∧ s.applyReset.returned = none ∧ s.applyReset.params = s.params ∧
    step s.applyReset = .next s.applyReset ∧
    step (s.applyReset.present w) = step (s.present w)

/-- The state after reset holds the defaults of R27 and R261: 0x02, 0x03, 0 to 99, 0 to 255, FIRST_ETX, the default
collaborators, no buffer limit, no transaction and no Status (general knowledge and choices: log 2 to 7, 16). -/
def Obligations.ResetStateHoldsTheDefaults : Prop :=
  State.reset.params.stx = 0x02 ∧ State.reset.params.etx = 0x03 ∧
  State.reset.params.trnMin = 0 ∧ State.reset.params.trnMax = 99 ∧
  State.reset.params.refMin = 0 ∧ State.reset.params.refMax = 255 ∧
  State.reset.params.etxCheck = .firstEtx ∧ State.reset.params.packer = .specDefault ∧
  State.reset.params.transcoder = .specDefault ∧ State.reset.params.maxBuf = none ∧
  State.reset.issued = none ∧ State.reset.returned = none

/-- The invariant holds after reset: the default parameters are legal, and no result stands (the defaults are general
knowledge and choices: log 2 to 7, 16). -/
def Obligations.InvariantHoldsAfterReset : Prop := State.reset.Inv

/-- Every step keeps the invariant: legal parameters, and sound results in every OK response (`State.Inv`). -/
def Obligations.EveryStepKeepsTheInvariant : Prop :=
  ∀ s t : State, s.Inv → step s = .next t → t.Inv

/-- Decoding what an instruction is presented as gives the instruction back, for every well-formed instruction of
both formats (R69, R80). -/
def Obligations.DecodeOfEncodeIsTheInstruction : Prop :=
  ∀ i : Instr, i.wellFormed = true → decode (encode i) = .ok i

/-- Each of the 25 codes of R80 selects its operation with that operation's own operands, whatever all the operands are,
and words of both formats decode to the instructions they stand for, a reserved one to none. The codes are the spec's
own choice (D9: log 9); what stands behind a word of the opcode table, blank operands and a body of separators, is the
model's (log 15). -/
def Obligations.WrittenOutWordsDecode : Prop :=
  (∀ o : Operands,
    decode (.command 0x10 o) = .ok (.b2h o.bByte) ∧
    decode (.command 0x11 o) = .ok (.cp2h o.c) ∧
    decode (.command 0x12 o) = .ok (.seq2h o.sCp) ∧
    decode (.command 0x13 o) = .ok (.h2b o.h) ∧
    decode (.command 0x14 o) = .ok (.h2bits o.h) ∧
    decode (.command 0x15 o) = .ok (.chunk o.bStr o.maxSize) ∧
    decode (.command 0x16 o) = .ok (.padr o.bStr o.width) ∧
    decode (.command 0x20 o) = .ok (.revenc o.sStr) ∧
    decode (.command 0x21 o) = .ok (.revdec o.r) ∧
    decode (.command 0x30 o) = .ok (.adv o.valueNat o.min o.max) ∧
    decode (.command 0x31 o) = .ok (.advs o.valueStr o.min o.max) ∧
    decode (.command 0x32 o) = .ok (.rtrn o.valueNat) ∧
    decode (.command 0x40 o) = .ok (.sndenc o.text) ∧
    decode (.command 0x41 o) = .ok (.snddec o.otoa o.field) ∧
    decode (.command 0x42 o) = .ok (.socnt o.h) ∧
    decode (.command 0x50 o) = .ok (.join o.l) ∧
    decode (.command 0x51 o) = .ok (.csum o.m) ∧
    decode (.command 0x52 o) = .ok (.compose o.trn o.role o.ot o.bodyFields) ∧
    decode (.command 0x53 o) = .ok (.wrap o.m) ∧
    decode (.command 0x54 o) = .ok (.create o.currentTrn o.ot o.bodyFields) ∧
    decode (.command 0x55 o) = .ok (.render o.body) ∧
    decode (.command 0x60 o) = .ok (.parse o.buf) ∧
    decode (.command 0x61 o) = .ok (.split o.sStr) ∧
    decode (.command 0x62 o) = .ok (.decode o.buf) ∧
    decode (.command 0x70 o) = .ok (.pbody o.header o.bodyText)) ∧
  decodeTableWord 8 0x13 = some (.h2b []) ∧ decodeTableWord 8 0x31 = some (.advs [] 0 0) ∧
  decodeTableWord 8 0x54 = some (.create 0 [] []) ∧ decodeTableWord 8 0x17 = none ∧
  decodeTableWord 32 0x4F333100 = some (.frameO31 [[0x00], []]) ∧
  decodeTableWord 32 0x5235314E = some (.frameRNack [0x35, 0x31] [] []) ∧
  decodeTableWord 32 0x4F333000 = none

/-- An instruction raises no error but those its rules name (R231, R236). -/
def Obligations.OnlyNamedErrorsAreRaised : Prop :=
  ∀ (i : Instr) (s : State) (e : Error),
    exec i s = .next { s with returned := some (.raised e) } → e ∈ mayRaise i

/-- The Status numbers (R81; the spec's own, D10: log 9), and that a Status other than OK delivers nothing but
itself (R232, R233; D35: log 33). -/
def Obligations.StatusNumbersAreTheTable : Prop :=
  errorCode .invalidMessage = 1 ∧ errorCode .messageTooLong = 2 ∧ errorCode .invalidHeader = 3 ∧
  errorCode .invalidCommandSyntax = 4 ∧ errorCode .unsupportedOperation = 5 ∧ errorCode .undefinedInput = 14 ∧
  errorCode .illegalOp = 15 ∧ (∀ r, statusCode (.ok r) = 0 ∧ deliveredResults (.ok r) = some r) ∧
  (∀ e, statusCode (.raised e) = errorCode e ∧ deliveredResults (.raised e) = none) ∧
  (∀ r : Response, statusCode r = 0 ↔ ∃ x, r = .ok x)

/-! ### Hex and bit utilities -/

/-- B2H (R100): the two hex digits of a byte, high nibble first (the OPSEL is the spec's own number, D9: log 9). -/
def Obligations.ByteToHexGivesBothNibbles : Prop :=
  (∀ o : Operands, decode (.command 0x10 o) = .ok (.b2h o.bByte)) ∧
  ∀ (b : Byte) (s : State), exec (.b2h b) s =
    .next { s with returned := some (.ok (.str [HEXDIG.getD (b.toNat >>> 4) 0, HEXDIG.getD (b.toNat &&& 15) 0])) }

/-- CP2H (R101): four digits up to 0xFFFF; above it UNDEFINED_INPUT, and the 4-digit form of small code points, are
the spec's own (D18: log 8). -/
def Obligations.CodePointToHexGivesFourDigits : Prop :=
  ∀ (c : Nat) (s : State),
    (c ≤ 0xFFFF → exec (.cp2h c) s = .next { s with returned := some (.ok (.str
      [HEXDIG.getD (c / 4096) 0, HEXDIG.getD (c / 256 % 16) 0, HEXDIG.getD (c / 16 % 16) 0,
        HEXDIG.getD (c % 16) 0])) }) ∧
    (0xFFFF < c → exec (.cp2h c) s = .next { s with returned := some (.raised .undefinedInput) })

/-- SEQ2H (R102): one width for the whole sequence, by its greatest element; an element above 0xFFFF is
UNDEFINED_INPUT (D18: log 8). -/
def Obligations.SequenceToHexChoosesOneWidth : Prop :=
  ∀ (cps : CpSeq) (s : State),
    ((∀ c ∈ cps, c ≤ 255) → exec (.seq2h cps) s = .next { s with returned := some (.ok (.str
      (cps.flatMap fun c => [HEXDIG.getD (c / 16) 0, HEXDIG.getD (c % 16) 0]))) }) ∧
    ((∃ c ∈ cps, 255 < c) → (∀ c ∈ cps, c ≤ 0xFFFF) →
      exec (.seq2h cps) s = .next { s with returned := some (.ok (.str
        (cps.flatMap fun c => [HEXDIG.getD (c / 4096) 0, HEXDIG.getD (c / 256 % 16) 0,
          HEXDIG.getD (c / 16 % 16) 0, HEXDIG.getD (c % 16) 0]))) }) ∧
    ((∃ c ∈ cps, 0xFFFF < c) →
      exec (.seq2h cps) s = .next { s with returned := some (.raised .undefinedInput) })

/-- The hex text SEQ2H writes for a byte string has two digits a byte, and H2B reads it back (R102, R103). -/
def Obligations.HexTextDecodesBack : Prop :=
  ∀ (b : Str) (s : State), ∃ h : Str,
    exec (.seq2h (b.map BitVec.toNat)) s = .next { s with returned := some (.ok (.str h)) } ∧
    h.length = 2 * b.length ∧
    exec (.h2b h) s = .next { s with returned := some (.ok (.str b)) }

/-- H2B (R103) completes on every even-length string of uppercase hex digits, with the bytes whose hex text that is;
anything else is UNDEFINED_INPUT (the spec's own, D16: log 19). -/
def Obligations.HexDecodeAcceptsEvenUppercaseHex : Prop :=
  ∀ (h : Str) (s : State),
    ((h.length % 2 = 0 ∧ ∀ c ∈ h, c ∈ HEXDIG) → ∃ b : Str,
      exec (.h2b h) s = .next { s with returned := some (.ok (.str b)) } ∧ 2 * b.length = h.length ∧
      exec (.seq2h (b.map BitVec.toNat)) s = .next { s with returned := some (.ok (.str h)) }) ∧
    ((h.length % 2 = 1 ∨ ∃ c ∈ h, c ∉ HEXDIG) →
      exec (.h2b h) s = .next { s with returned := some (.raised .undefinedInput) })

/-- H2BITS (R104): four bits a character, also for an odd number of characters, bit 3 of each digit first (the
spec's own order, D15: log 18); a byte outside HEXDIG is UNDEFINED_INPUT (D16: log 19). -/
def Obligations.HexToBitsGivesFourBitsADigit : Prop :=
  ∀ (h : Str) (s : State),
    ((∀ c ∈ h, c ∈ HEXDIG) → ∃ v : Bits,
      exec (.h2bits h) s = .next { s with returned := some (.ok (.bits v)) } ∧ v.length = 4 * h.length ∧
      ∀ i j : Nat, i < h.length → j < 4 →
        v[4 * i + j]? = some ((HEXDIG.idxOf (h.getD i 0)).testBit (3 - j))) ∧
    ((∃ c ∈ h, c ∉ HEXDIG) →
      exec (.h2bits h) s = .next { s with returned := some (.raised .undefinedInput) })

/-- CHUNK (R105): slices in order that cover the buffer, all but the last of exactly `maxSize` bytes (the greedy cut
is the spec's own, D17: log 20), the number the rule gives; zero is UNDEFINED_INPUT. -/
def Obligations.ChunksCoverTheBuffer : Prop :=
  ∀ (b : Str) (maxSize : Nat) (s : State),
    (0 < maxSize → ∃ l : List Str,
      exec (.chunk b maxSize) s = .next { s with returned := some (.ok (.strList l)) } ∧
      l.flatten = b ∧ (∀ c ∈ l, c.length ≤ maxSize) ∧ (∀ c ∈ l.dropLast, c.length = maxSize) ∧
      l.length = Nat.max 1 ((b.length + maxSize - 1) / maxSize)) ∧
    (maxSize = 0 → exec (.chunk b maxSize) s = .next { s with returned := some (.raised .undefinedInput) })

/-- PADR (R106): fewer than `width` zero bytes are added, up to a multiple of `width`; width zero is UNDEFINED_INPUT
(the spec's own, D17: log 20). -/
def Obligations.PaddingReachesTheSmallestMultiple : Prop :=
  ∀ (b : Str) (width : Nat) (s : State),
    (0 < width → ∃ k : Nat,
      exec (.padr b width) s = .next { s with returned := some (.ok (.str (b ++ List.replicate k 0))) } ∧
      width ∣ b.length + k ∧ k < width) ∧
    (width = 0 → exec (.padr b width) s = .next { s with returned := some (.raised .undefinedInput) })

/-! ### Semi-octet reversal -/

/-- REVENC (R120) swaps the characters of every pair, and writes the filler before a lone last character (the OPSEL
is the spec's own number, D9: log 9). -/
def Obligations.ReverseEncodeSwapsEveryPair : Prop :=
  (∀ o : Operands, decode (.command 0x20 o) = .ok (.revenc o.sStr)) ∧
  ∀ (d : Str) (s : State), ∃ r : Str,
    exec (.revenc d) s = .next { s with returned := some (.ok (.str r)) } ∧
    r.length = d.length + d.length % 2 ∧
    (∀ i, 2 * i + 1 < d.length → r[2 * i]? = d[2 * i + 1]? ∧ r[2 * i + 1]? = d[2 * i]?) ∧
    (d.length % 2 = 1 → r[d.length - 1]? = some FILLER ∧ r[d.length]? = d[d.length - 1]?)

/-- REVDEC (R121): defined on even-length strings with the filler nowhere but at the last index but one, where it
answers a string that REVENC encodes to its operand (R122), one shorter exactly when the filler was there; elsewhere
UNDEFINED_INPUT (the spec's own, D19: log 21). -/
def Obligations.ReverseDecodeInvertsOnItsDomain : Prop :=
  ∀ (r : Str) (s : State),
    ((r.length % 2 = 0 ∧ ∀ i, r[i]? = some FILLER → i + 2 = r.length) → ∃ d : Str,
      exec (.revdec r) s = .next { s with returned := some (.ok (.str d)) } ∧
      exec (.revenc d) s = .next { s with returned := some (.ok (.str r)) } ∧
      (FILLER ∈ r → d.length + 1 = r.length) ∧ (FILLER ∉ r → d.length = r.length)) ∧
    ((r.length % 2 = 1 ∨ ∃ i, r[i]? = some FILLER ∧ i + 2 ≠ r.length) →
      exec (.revdec r) s = .next { s with returned := some (.raised .undefinedInput) })

/-- R122: REVDEC gives back every filler-free string that REVENC encoded, of even or odd length. -/
def Obligations.ReversalRoundTripsWithoutFiller : Prop :=
  ∀ (d : Str) (s : State), FILLER ∉ d → ∃ r : Str,
    exec (.revenc d) s = .next { s with returned := some (.ok (.str r)) } ∧
    exec (.revdec r) s = .next { s with returned := some (.ok (.str d)) }

/-! ### Sequence counters -/

/-- ADV (R130): the minimum from the maximum on, one more below it (the OPSEL is the spec's own number, D9:
log 9). -/
def Obligations.AdvanceWrapsAtTheMaximum : Prop :=
  (∀ o : Operands, decode (.command 0x30 o) = .ok (.adv o.valueNat o.min o.max)) ∧
  ∀ (value min max : Nat) (s : State),
    (max ≤ value → exec (.adv value min max) s = .next { s with returned := some (.ok (.nat min)) }) ∧
    (value < max → exec (.adv value min max) s = .next { s with returned := some (.ok (.nat (value + 1))) })

/-- ADVS (R131): a string of one or more digits advances as the number it writes, leading zeros ignored; any other
string is UNDEFINED_INPUT (the spec's own, D20: log 36). -/
def Obligations.AdvanceReadsADecimalString : Prop :=
  ∀ (text : Str) (min max : Nat) (s : State),
    ((text ≠ [] ∧ ∀ c ∈ text, isDigit c = true) → ∃ v : Nat,
      dec text.length v = text ∧ v < 10 ^ text.length ∧
      exec (.advs text min max) s =
        .next { s with returned := some (.ok (.nat (if max ≤ v then min else v + 1))) }) ∧
    ((text = [] ∨ ∃ c ∈ text, isDigit c = false) →
      exec (.advs text min max) s = .next { s with returned := some (.raised .undefinedInput) })

/-- RTRN (R132): two digits up to 99; above it UNDEFINED_INPUT (the spec's own, D21: log 36). -/
def Obligations.RenderTrnWritesTwoDigits : Prop :=
  ∀ (value : Nat) (s : State),
    (value ≤ 99 → exec (.rtrn value) s = .next { s with returned := some (.ok (.str
      [BitVec.ofNat 8 (0x30 + value / 10), BitVec.ofNat 8 (0x30 + value % 10)])) }) ∧
    (99 < value → exec (.rtrn value) s = .next { s with returned := some (.raised .undefinedInput) })

/-- R134: once inside its range a counter stays inside; from the minimum it visits every value up to the maximum in
turn and comes back, a cycle of max - min + 1. -/
def Obligations.CounterStaysInRangeAndCycles : Prop :=
  ∀ min max : Nat, min ≤ max →
    (∀ (value : Nat) (s : State), min ≤ value → value ≤ max → ∃ n,
      exec (.adv value min max) s = .next { s with returned := some (.ok (.nat n)) } ∧ min ≤ n ∧ n ≤ max) ∧
    (∀ k, k ≤ max - min → (fun v => advanceCounter v min max)^[k] min = min + k) ∧
    (fun v => advanceCounter v min max)^[max - min + 1] min = min

/-! ### Sender address codec -/

/-- SOCNT (R143): two for each pair less one for each pair that begins with `0`; odd length is UNDEFINED_INPUT (the
spec's own, D22: log 35). -/
def Obligations.SemiOctetCountScansPairs : Prop :=
  ∀ (h : Str) (s : State),
    (h.length % 2 = 0 → ∃ n : Nat, exec (.socnt h) s = .next { s with returned := some (.ok (.nat n)) } ∧
      n + ((List.range (h.length / 2)).countP fun i => h.getD (2 * i) 0 == 0x30) = h.length) ∧
    (h.length % 2 = 1 → exec (.socnt h) s = .next { s with returned := some (.raised .undefinedInput) })

/-- SNDENC (R144): a text of digits alone stands as it is; any other is transcoded, packed, written as hex after
its count, a packed byte below 0x10 counting 1 and any other 2 (R143). A count above 255 is UNDEFINED_INPUT, and the
empty text is numeric (the spec's own, D22: log 35). It holds for every packer and transcoder. -/
def Obligations.SenderIsNumericOrPackedWithItsCount : Prop :=
  ∀ (text : Str) (s : State),
    ((∀ c ∈ text, isDigit c = true) →
      exec (.sndenc text) s = .next { s with returned := some (.ok (.sender [] text)) }) ∧
    (∀ (p : Str) (n : Nat), (∃ c ∈ text, isDigit c = false) → p = pack7 s.params (toWire s.params text) →
      n + (p.countP fun c => decide (c.toNat < 16)) = 2 * p.length →
      (n ≤ 255 → exec (.sndenc text) s = .next { s with returned := some (.ok (.sender [0x35, 0x30, 0x33, 0x39]
        (HEXDIG.getD (n / 16) 0 :: HEXDIG.getD (n % 16) 0 :: hexText p))) }) ∧
      (255 < n → exec (.sndenc text) s = .next { s with returned := some (.raised .undefinedInput) }))

/-- SNDDEC (R145): any type but 5039 gives the field as it stands; for 5039 two characters, whatever they are, are
dropped and the hex text after them is decoded, unpacked and transcoded. A field of another form is UNDEFINED_INPUT
(the spec's own, D23: log 35). It holds for every unpacker and transcoder. -/
def Obligations.SenderDecodeDropsThePrefix : Prop :=
  ∀ (otoa field : Str) (s : State),
    (otoa ≠ [0x35, 0x30, 0x33, 0x39] →
      exec (.snddec otoa field) s = .next { s with returned := some (.ok (.str field)) }) ∧
    (otoa = [0x35, 0x30, 0x33, 0x39] → ∀ (c d : Byte) (b : Str), field = c :: d :: hexText b →
      exec (.snddec otoa field) s =
        .next { s with returned := some (.ok (.str (toLocal s.params (unpack7 s.params b)))) }) ∧
    (otoa = [0x35, 0x30, 0x33, 0x39] → (∀ (c d : Byte) (b : Str), field ≠ c :: d :: hexText b) →
      exec (.snddec otoa field) s = .next { s with returned := some (.raised .undefinedInput) })

/-- R146: digits round-trip always, the empty text among them (that it is numeric is the spec's own, D22: log 35); an
alphanumeric text whose count n, as SNDENC counts it, fits two digits (that a larger one is refused is D22 too: log 35)
round-trips where the collaborators satisfy the two named assumptions on it. -/
def Obligations.SenderRoundTripsWhereCollaboratorsDo : Prop :=
  ∀ (text : Str) (s : State),
    ((∀ c ∈ text, isDigit c = true) →
      exec (.sndenc text) s = .next { s with returned := some (.ok (.sender [] text)) } ∧
      exec (.snddec [] text) s = .next { s with returned := some (.ok (.str text)) }) ∧
    (∀ (p : Str) (n : Nat), (∃ c ∈ text, isDigit c = false) → p = pack7 s.params (toWire s.params text) →
      n + (p.countP fun c => decide (c.toNat < 16)) = 2 * p.length → n ≤ 255 →
      unpack7 s.params p = toWire s.params text → toLocal s.params (toWire s.params text) = text →
      ∃ otoa field : Str,
        exec (.sndenc text) s = .next { s with returned := some (.ok (.sender otoa field)) } ∧
        exec (.snddec otoa field) s = .next { s with returned := some (.ok (.str text)) })

/-- The default packer and unpacker (R140, R141, general knowledge: log 4) round-trip a text of septets whose length
is not 7 modulo 8, and add one zero byte to a text whose length is. -/
def Obligations.DefaultUnpackerInvertsThePacker : Prop :=
  ∀ w : Str, (∀ c ∈ w, c.toNat < 128) →
    (w.length % 8 ≠ 7 → defaultUnpack7 (defaultPack7 w) = w) ∧
    (w.length % 8 = 7 → defaultUnpack7 (defaultPack7 w) = w ++ [0])

/-- The worked example of the source (spec/95_test_vectors.md S2), from the state after reset, whose packer is the
default (log 4, 5). -/
def Obligations.WorkedSenderExample : Prop :=
  exec (.sndenc (ascii "orange.pl")) State.reset =
    .next { State.reset with returned := some (.ok (.sender (ascii "5039") (ascii "106F79D87D2EBBE06C"))) } ∧
  exec (.snddec (ascii "5039") (ascii "106F79D87D2EBBE06C")) State.reset =
    .next { State.reset with returned := some (.ok (.str (ascii "orange.pl"))) }

/-! ### Frame composer -/

/-- JOIN (R160) puts one separator between two fields and nothing else, and SPLIT gives the list back exactly when it
is not empty and no field holds a separator (the OPSEL is the spec's own number, D9: log 9). -/
def Obligations.JoinPutsOneSeparatorBetweenFields : Prop :=
  (∀ o : Operands, decode (.command 0x50 o) = .ok (.join o.l)) ∧
  (∀ s : State, exec (.join []) s = .next { s with returned := some (.ok (.str [])) }) ∧
  (∀ (f : Str) (l : List Str) (s : State), exec (.join (f :: l)) s =
    .next { s with returned := some (.ok (.str (f ++ (l.map fun g => SEP :: g).flatten))) }) ∧
  (∀ (l : List Str) (s : State), ∃ text : Str,
    exec (.join l) s = .next { s with returned := some (.ok (.str text)) } ∧
    (exec (.split text) s = .next { s with returned := some (.ok (.strList l)) } ↔
      l ≠ [] ∧ ∀ f ∈ l, SEP ∉ f))

/-- CSUM (R161) is the byte sum modulo 256 in two hex digits; the order of the bytes does not matter, and one changed
byte always changes it (the OPSEL is the spec's own number, D9: log 9). -/
def Obligations.ChecksumIsTheByteSum : Prop :=
  (∀ o : Operands, decode (.command 0x51 o) = .ok (.csum o.m)) ∧
  (∀ (m : Str) (s : State), exec (.csum m) s = .next { s with returned := some (.ok (.str
    [HEXDIG.getD ((m.map BitVec.toNat).sum % 256 / 16) 0, HEXDIG.getD ((m.map BitVec.toNat).sum % 256 % 16) 0])) }) ∧
  (∀ (m m' : Str) (s : State), m.Perm m' → exec (.csum m) s = exec (.csum m') s) ∧
  (∀ (before after : Str) (a b : Byte) (s : State), a ≠ b →
    exec (.csum (before ++ a :: after)) s ≠ exec (.csum (before ++ b :: after)) s)

/-- COMPOSE (R162, R166): the message has the length its `len` field writes, its fields in order, and the checksum of
everything before it; a length above 99999 is UNDEFINED_INPUT (the spec's own, D24: log 31). -/
def Obligations.ComposedMessageIsLaidOut : Prop :=
  ∀ (trn role ot : Str) (fields : List Str) (s : State) (body : Str) (n : Nat), body = joinFields fields →
    n = trn.length + role.length + ot.length + body.length + 12 →
    (n ≤ 99999 → ∃ m pre sum : Str,
      exec (.compose trn role ot fields) s = .next { s with returned := some (.ok (.str m)) } ∧
      m = pre ++ sum ∧ m.length = n ∧
      pre = trn ++ SEP :: dec 5 n ++ SEP :: role ++ SEP :: ot ++ SEP :: body ++ [SEP] ∧
      exec (.csum pre) s = .next { s with returned := some (.ok (.str sum)) }) ∧
    (99999 < n → exec (.compose trn role ot fields) s =
      .next { s with returned := some (.raised .undefinedInput) })

/-- WRAP (R163): STX before the message and ETX after it, whatever the message (the OPSEL is the spec's own number,
D9: log 9). -/
def Obligations.WrapAddsTheDelimiters : Prop :=
  (∀ o : Operands, decode (.command 0x53 o) = .ok (.wrap o.m)) ∧
  ∀ (m : Str) (s : State), exec (.wrap m) s =
    .next { s with returned := some (.ok (.str ([s.params.stx] ++ m ++ [s.params.etx]))) }

/-- CREATE (R164) with legal parameters: the counter advances by TRN_MIN and TRN_MAX, and the message is the one
COMPOSE makes with role O and the advanced number in two digits (that the header carries the advanced number is the
spec's own, D25: log 22). A length above 99999 is UNDEFINED_INPUT and no counter value (the spec's own, D24: log 31,
log 8). -/
def Obligations.CreateCarriesTheAdvancedNumber : Prop :=
  ∀ (current : Nat) (ot : Str) (fields : List Str) (s : State) (body : Str) (next : Nat), s.params.Legal →
    body = joinFields fields →
    next = (if s.params.trnMax ≤ current then s.params.trnMin else current + 1) →
    (ot.length + body.length + 15 ≤ 99999 → ∃ trn m : Str,
      exec (.rtrn next) s = .next { s with returned := some (.ok (.str trn)) } ∧
      exec (.compose trn [0x4F] ot fields) s = .next { s with returned := some (.ok (.str m)) } ∧
      exec (.create current ot fields) s = .next { s with returned := some (.ok (.created next m)) }) ∧
    (99999 < ot.length + body.length + 15 → exec (.create current ot fields) s =
      .next { s with returned := some (.raised .undefinedInput) })

/-- RENDER (R165): the fields of each variant in schema order, copied as they stand (that RENDER encodes none is the
spec's own, D26: log 34), the marker first in an Ack or Nack. -/
def Obligations.RenderListsTheFieldsInOrder : Prop :=
  ∀ s : State,
    (∀ adc pid, exec (.render (.addressInfoRequest ⟨adc, pid⟩)) s =
      .next { s with returned := some (.ok (.strList [adc, pid])) }) ∧
    (∀ oadc oton onpi styp pwd npwd vers ladc lton lnpi opid res1,
      exec (.render (.sessionRequest ⟨oadc, oton, onpi, styp, pwd, npwd, vers, ladc, lton, lnpi, opid, res1⟩)) s =
        .next { s with returned := some (.ok (.strList
          [oadc, oton, onpi, styp, pwd, npwd, vers, ladc, lton, lnpi, opid, res1])) }) ∧
    (∀ adc oadc ac nrq nadc nt npid lrq lrad lpid dd ddt vp rpid scts dst rsn dscts mt nb msg mms pr dcs mcls rpi
        cpg rply otoa hplmn xser res4 res5,
      exec (.render (.submitShortMessage ⟨adc, oadc, ac, nrq, nadc, nt, npid, lrq, lrad, lpid, dd, ddt, vp, rpid,
        scts, dst, rsn, dscts, mt, nb, msg, mms, pr, dcs, mcls, rpi, cpg, rply, otoa, hplmn, xser, res4, res5⟩)) s =
        .next { s with returned := some (.ok (.strList [adc, oadc, ac, nrq, nadc, nt, npid, lrq, lrad, lpid, dd,
          ddt, vp, rpid, scts, dst, rsn, dscts, mt, nb, msg, mms, pr, dcs, mcls, rpi, cpg, rply, otoa, hplmn, xser,
          res4, res5])) }) ∧
    (∀ sm, exec (.render (.ack ⟨none, sm⟩)) s = .next { s with returned := some (.ok (.strList [[0x41], sm])) }) ∧
    (∀ mvp sm, exec (.render (.ack ⟨some mvp, sm⟩)) s =
      .next { s with returned := some (.ok (.strList [[0x41], mvp, sm])) }) ∧
    (∀ ec sm, exec (.render (.nack ⟨ec, sm⟩)) s =
      .next { s with returned := some (.ok (.strList [[0x4E], ec, sm])) })

/-- The pseudo-operations (R83; the spec's own notation, D7): TRNADV and REFADV advance by the configured ranges, and
FRAME is WRAP of COMPOSE. -/
def Obligations.PseudoOperationsAbbreviate : Prop :=
  ∀ s : State,
    (∀ v, exec (trnAdv s.params v) s = exec (.adv v s.params.trnMin s.params.trnMax) s) ∧
    (∀ v, exec (refAdv s.params v) s = exec (.adv v s.params.refMin s.params.refMax) s) ∧
    (∀ (trn role ot : Str) (fields : List Str) (m f : Str),
      exec (.compose trn role ot fields) s = .next { s with returned := some (.ok (.str m)) } →
      exec (.wrap m) s = .next { s with returned := some (.ok (.str f)) } →
      wholeFrame s.params trn role ot fields = .ok f)

/-! ### Frame parser -/

/-- SPLIT (R180) gives one field more than the string has separators, no field with a separator in it, and JOIN gives
the string back (the OPSEL is the spec's own number, D9: log 9). -/
def Obligations.SplitKeepsEveryField : Prop :=
  (∀ o : Operands, decode (.command 0x61 o) = .ok (.split o.sStr)) ∧
  ∀ (text : Str) (s : State), ∃ l : List Str,
    exec (.split text) s = .next { s with returned := some (.ok (.strList l)) } ∧
    l.length = text.count SEP + 1 ∧ (∀ f ∈ l, SEP ∉ f) ∧
    exec (.join l) s = .next { s with returned := some (.ok (.str text)) }

/-- R182: a buffer shorter than 14 bytes, or that does not begin with STX, is invalid_message, whatever else it
holds. -/
def Obligations.FrameWithoutItsStartIsInvalid : Prop :=
  ∀ (buf : Str) (s : State), (buf.length < 14 ∨ buf[0]? ≠ some s.params.stx) →
    exec (.parse buf) s = .next { s with returned := some (.raised .invalidMessage) }

/-- R183 in both readings of ETX_CHECK (the parameter is the spec's own, D5: log 6), where step 1 passed: FIRST_ETX
answers invalid_message without an ETX and message_too_long when bytes follow the first; LAST_BYTE answers
message_too_long when the last byte is not ETX. -/
def Obligations.TrailingBytesAreTooLong : Prop :=
  ∀ (buf : Str) (s : State), 14 ≤ buf.length → buf[0]? = some s.params.stx →
    (s.params.etxCheck = .firstEtx → s.params.etx ∉ buf →
      exec (.parse buf) s = .next { s with returned := some (.raised .invalidMessage) }) ∧
    (s.params.etxCheck = .firstEtx → s.params.etx ∈ buf.dropLast →
      exec (.parse buf) s = .next { s with returned := some (.raised .messageTooLong) }) ∧
    (s.params.etxCheck = .lastByte → buf.getLast? ≠ some s.params.etx →
      exec (.parse buf) s = .next { s with returned := some (.raised .messageTooLong) })

/-- Parser step 3 (R184), where steps 1 and 2 passed: a header region without exactly three separators is
invalid_header, and the four fields of an accepted header are the region split, in the order trn, len, role, ot. That a
region with three separators is never invalid_header, whatever its `len` and its widths, is the spec's own (D27, D34:
log 28). -/
def Obligations.HeaderRegionHasFourFields : Prop :=
  ∀ (buf : Str) (s : State), 14 ≤ buf.length → buf[0]? = some s.params.stx → endsFrame s.params buf →
    (((buf.drop 1).take 13).count SEP ≠ 3 →
      exec (.parse buf) s = .next { s with returned := some (.raised .invalidHeader) }) ∧
    (((buf.drop 1).take 13).count SEP = 3 →
      exec (.parse buf) s ≠ .next { s with returned := some (.raised .invalidHeader) } ∧
      ∀ (h : Header) (bodyText sum : Str),
        exec (.parse buf) s = .next { s with returned := some (.ok (.parsed h bodyText sum)) } →
        exec (.split ((buf.drop 1).take 13)) s =
          .next { s with returned := some (.ok (.strList [h.trn, h.len, h.role, h.ot])) })

/-- R181, R185, R190: PARSE accepts a buffer exactly when it is STX, a 13-byte region of four fields, SEP, a body,
SEP, a 2-byte checksum, ETX, with a `len` that writes the number of bytes between the delimiters, and step 2 passes;
and it answers those parts as they stand, the header's widths (D34: log 28) and the checksum unverified (D28:
log 25). -/
def Obligations.ParseAcceptsExactlyTheCarvedFrames : Prop :=
  ∀ (buf : Str) (s : State) (h : Header) (bodyText sum : Str),
    exec (.parse buf) s = .next { s with returned := some (.ok (.parsed h bodyText sum)) } ↔
      endsFrame s.params buf ∧
      buf = s.params.stx :: (h.trn ++ SEP :: h.len ++ SEP :: h.role ++ SEP :: h.ot) ++
        SEP :: bodyText ++ SEP :: sum ++ [s.params.etx] ∧
      SEP ∉ h.trn ∧ SEP ∉ h.len ∧ SEP ∉ h.role ∧ SEP ∉ h.ot ∧
      h.trn.length + h.len.length + h.role.length + h.ot.length = 10 ∧ sum.length = 2 ∧
      (∀ c ∈ h.len, isDigit c = true) ∧ dec h.len.length (bodyText.length + 17) = h.len ∧
      bodyText.length + 17 < 10 ^ h.len.length

/-- R185 and R235: where steps 1 to 3 passed and the declared length does not carve the buffer, the error is
invalid_message (for a `len` that is no number or below 17 by the spec's own reading, D27: log 28). -/
def Obligations.LengthThatDoesNotCarveIsInvalid : Prop :=
  ∀ (buf : Str) (s : State), 14 ≤ buf.length → buf[0]? = some s.params.stx → endsFrame s.params buf →
    ((buf.drop 1).take 13).count SEP = 3 →
    (¬ ∃ (h : Header) (bodyText sum : Str),
      exec (.parse buf) s = .next { s with returned := some (.ok (.parsed h bodyText sum)) }) →
    exec (.parse buf) s = .next { s with returned := some (.raised .invalidMessage) }

/-- R188: an accepted frame stays accepted when any other two bytes stand at its checksum, under FIRST_ETX no ETX among
them (R183), and they are returned as found (no verification is the spec's own choice, D28: log 25; the parameter D5:
log 6). -/
def Obligations.ChecksumIsNotVerified : Prop :=
  ∀ (front sum sum' : Str) (s : State) (h : Header) (bodyText : Str), sum.length = 2 → sum'.length = 2 →
    (s.params.etxCheck = .firstEtx → s.params.etx ∉ sum') →
    exec (.parse (front ++ sum ++ [s.params.etx])) s =
      .next { s with returned := some (.ok (.parsed h bodyText sum)) } →
    exec (.parse (front ++ sum' ++ [s.params.etx])) s =
      .next { s with returned := some (.ok (.parsed h bodyText sum')) }

/-- R166 (b): a frame built by the composer always passes the parser, with the header it was given, the length of the
message, the body and the checksum, for both values of ETX_CHECK and all legal parameters. -/
def Obligations.ComposedFrameAlwaysParses : Prop :=
  ∀ (trn role ot : Str) (fields : List Str) (s : State) (body : Str), s.params.Legal →
    body = joinFields fields →
    trn.length = 2 → role.length = 1 → ot.length = 2 →
    SEP ∉ trn → SEP ∉ role → SEP ∉ ot →
    s.params.etx ∉ trn → s.params.etx ∉ role → s.params.etx ∉ ot → (∀ f ∈ fields, s.params.etx ∉ f) →
    body.length ≤ 99982 →
    ∃ m f sum : Str,
      exec (.compose trn role ot fields) s = .next { s with returned := some (.ok (.str m)) } ∧
      exec (.wrap m) s = .next { s with returned := some (.ok (.str f)) } ∧
      exec (.parse f) s = .next { s with returned := some (.ok (.parsed
        { trn := trn, len := dec 5 (body.length + 17), role := role, ot := ot } body sum)) } ∧
      exec (.csum (m.take (m.length - 2))) s = .next { s with returned := some (.ok (.str sum)) }

/-- R189: DECODE is PARSE then PBODY, an error of PARSE preceding every error of PBODY (offering both as one operation
is the spec's own, D36). -/
def Obligations.DecodeIsParseThenPbody : Prop :=
  ∀ (buf : Str) (s : State),
    (∀ e, exec (.parse buf) s = .next { s with returned := some (.raised e) } →
      exec (.decode buf) s = .next { s with returned := some (.raised e) }) ∧
    (∀ (h : Header) (bodyText sum : Str), parseFrame s.params buf = .ok (h, bodyText, sum) →
      (∀ e, exec (.pbody h bodyText) s = .next { s with returned := some (.raised e) } →
        exec (.decode buf) s = .next { s with returned := some (.raised e) }) ∧
      (∀ b, parseBody s.params h bodyText = .ok b →
        exec (.decode buf) s = .next { s with returned := some (.ok (.decoded h b sum)) }))

/-! ### Body schema dispatcher and the frame schemas -/

/-- R201: role O, operation 31, for PBODY and for the frame schema: two fields are `adc` and `pid` as they stand, any
other count is invalid_command_syntax. -/
def Obligations.AddressQueryHasTwoFields : Prop :=
  ∀ (h : Header) (s : State), h.role = [0x4F] → h.ot = [0x33, 0x31] →
    (∀ adc pid : Str, SEP ∉ adc → SEP ∉ pid →
      exec (.pbody h (adc ++ SEP :: pid)) s =
        .next { s with returned := some (.ok (.body (.addressInfoRequest { adc := adc, pid := pid }))) }) ∧
    (∀ bodyText : Str, bodyText.count SEP + 1 ≠ 2 →
      exec (.pbody h bodyText) s = .next { s with returned := some (.raised .invalidCommandSyntax) }) ∧
    (∀ adc pid : Str, exec (.frameO31 [adc, pid]) s =
      .next { s with returned := some (.ok (.body (.addressInfoRequest { adc := adc, pid := pid }))) }) ∧
    (∀ fields : List Str, fields.length ≠ 2 →
      exec (.frameO31 fields) s = .next { s with returned := some (.raised .invalidCommandSyntax) })

/-- R202: role O, operation 60, for PBODY and for the frame schema: `pwd` and `npwd` pass through TO_LOCAL (the
direction is the spec's own, D30: log 24), the other ten fields stand as they are. -/
def Obligations.SessionRequestTranscodesPasswords : Prop :=
  ∀ (h : Header) (s : State), h.role = [0x4F] → h.ot = [0x36, 0x30] →
    (∀ b : SessionRequest, (∀ f ∈ renderBody (.sessionRequest b), SEP ∉ f) →
      exec (.pbody h (joinFields (renderBody (.sessionRequest b)))) s = .next { s with returned := some (.ok (.body (.sessionRequest
        { b with pwd := toLocal s.params b.pwd, npwd := toLocal s.params b.npwd }))) }) ∧
    (∀ bodyText : Str, bodyText.count SEP + 1 ≠ 12 →
      exec (.pbody h bodyText) s = .next { s with returned := some (.raised .invalidCommandSyntax) }) ∧
    (∀ b : SessionRequest, exec (.frameO60 (renderBody (.sessionRequest b))) s =
      .next { s with returned := some (.ok (.body (.sessionRequest
        { b with pwd := toLocal s.params b.pwd, npwd := toLocal s.params b.npwd }))) }) ∧
    (∀ fields : List Str, fields.length ≠ 12 →
      exec (.frameO60 fields) s = .next { s with returned := some (.raised .invalidCommandSyntax) })

/-- R203: role O, operations 51, 52 and 53, alike, for PBODY and for the three frame schemas: `oadc` is what SNDDEC
gives with `otoa`, the other 32 fields stand as they are; where SNDDEC cannot, or the count is not 33, the error is
invalid_command_syntax (that `oadc` is decoded, and the error, are the spec's own, D29: log 23). -/
def Obligations.SubmitDecodesItsSender : Prop :=
  ∀ (h : Header) (s : State), h.role = [0x4F] →
    (h.ot = [0x35, 0x31] ∨ h.ot = [0x35, 0x32] ∨ h.ot = [0x35, 0x33]) →
    (∀ (b : SubmitShortMessage) (text : Str),
      decodeSender s.params b.otoa b.oadc = .ok text →
      ((∀ f ∈ renderBody (.submitShortMessage b), SEP ∉ f) →
        exec (.pbody h (joinFields (renderBody (.submitShortMessage b)))) s =
          .next { s with returned := some (.ok (.body (.submitShortMessage { b with oadc := text }))) }) ∧
      ∀ i ∈ [Instr.frameO51, Instr.frameO52, Instr.frameO53],
        exec (i (renderBody (.submitShortMessage b))) s =
          .next { s with returned := some (.ok (.body (.submitShortMessage { b with oadc := text }))) }) ∧
    (∀ b : SubmitShortMessage,
      decodeSender s.params b.otoa b.oadc = .error .undefinedInput →
      ((∀ f ∈ renderBody (.submitShortMessage b), SEP ∉ f) →
        exec (.pbody h (joinFields (renderBody (.submitShortMessage b)))) s =
          .next { s with returned := some (.raised .invalidCommandSyntax) }) ∧
      ∀ i ∈ [Instr.frameO51, Instr.frameO52, Instr.frameO53],
        exec (i (renderBody (.submitShortMessage b))) s =
          .next { s with returned := some (.raised .invalidCommandSyntax) }) ∧
    (∀ bodyText : Str, bodyText.count SEP + 1 ≠ 33 →
      exec (.pbody h bodyText) s = .next { s with returned := some (.raised .invalidCommandSyntax) }) ∧
    (∀ fields : List Str, fields.length ≠ 33 →
      ∀ i ∈ [Instr.frameO51, Instr.frameO52, Instr.frameO53],
        exec (i fields) s = .next { s with returned := some (.raised .invalidCommandSyntax) })

/-- R204, R205, R206: the three response schemas, for PBODY under any `ot` and for the frame schemas: two fields after
marker `A` an Ack without `mvp`, three with it, empty or not, three after marker `N` a Nack. -/
def Obligations.ResponsesAreToldByCountAndMarker : Prop :=
  ∀ (h : Header) (s : State), h.role = [0x52] →
    (∀ sm : Str, SEP ∉ sm →
      exec (.pbody h (0x41 :: SEP :: sm)) s =
        .next { s with returned := some (.ok (.body (.ack { mvp := none, sm := sm }))) }) ∧
    (∀ mvp sm : Str, SEP ∉ mvp → SEP ∉ sm →
      exec (.pbody h (0x41 :: SEP :: mvp ++ SEP :: sm)) s =
        .next { s with returned := some (.ok (.body (.ack { mvp := some mvp, sm := sm }))) }) ∧
    (∀ ec sm : Str, SEP ∉ ec → SEP ∉ sm →
      exec (.pbody h (0x4E :: SEP :: ec ++ SEP :: sm)) s =
        .next { s with returned := some (.ok (.body (.nack { ec := ec, sm := sm }))) }) ∧
    (∀ ot sm : Str, exec (.frameRAck2 ot sm) s =
      .next { s with returned := some (.ok (.body (.ack { mvp := none, sm := sm }))) }) ∧
    (∀ ot mvp sm : Str, exec (.frameRAck3 ot mvp sm) s =
      .next { s with returned := some (.ok (.body (.ack { mvp := some mvp, sm := sm }))) }) ∧
    (∀ ot ec sm : Str, exec (.frameRNack ot ec sm) s =
      .next { s with returned := some (.ok (.body (.nack { ec := ec, sm := sm }))) })

/-- R207 and R208: every other operation type under role O, every other count and marker under role R, and every
other role is unsupported_operation, whatever the field count; and only a known operation of role O gives
invalid_command_syntax. -/
def Obligations.EverythingElseIsUnsupported : Prop :=
  ∀ (h : Header) (bodyText : Str) (s : State),
    (h.role = [0x4F] →
      h.ot ∉ [[0x33, 0x31], [0x36, 0x30], [0x35, 0x31], [0x35, 0x32], [0x35, 0x33]] →
      exec (.pbody h bodyText) s = .next { s with returned := some (.raised .unsupportedOperation) }) ∧
    (h.role = [0x52] →
      (∀ sm : Str, SEP ∉ sm → bodyText ≠ 0x41 :: SEP :: sm) →
      (∀ x sm : Str, SEP ∉ x → SEP ∉ sm →
        bodyText ≠ 0x41 :: SEP :: x ++ SEP :: sm ∧ bodyText ≠ 0x4E :: SEP :: x ++ SEP :: sm) →
      exec (.pbody h bodyText) s = .next { s with returned := some (.raised .unsupportedOperation) }) ∧
    (h.role ≠ [0x4F] → h.role ≠ [0x52] →
      exec (.pbody h bodyText) s = .next { s with returned := some (.raised .unsupportedOperation) }) ∧
    (exec (.pbody h bodyText) s = .next { s with returned := some (.raised .invalidCommandSyntax) } →
      h.role = [0x4F] ∧ h.ot ∈ [[0x33, 0x31], [0x36, 0x30], [0x35, 0x31], [0x35, 0x32], [0x35, 0x33]])

/-- R209: rendering a body, joining its fields and dispatching them under a header that selects its variant gives the
body back, when no field holds a separator, the passwords are fixed by TO_LOCAL and the sender is not of type
5039. -/
def Obligations.RenderedBodyParsesBack : Prop :=
  ∀ (b : Body) (h : Header) (s : State), bodyMatches h b → (∀ f ∈ renderBody b, SEP ∉ f) →
    (∀ x, b = .sessionRequest x → toLocal s.params x.pwd = x.pwd ∧ toLocal s.params x.npwd = x.npwd) →
    (∀ x, b = .submitShortMessage x → x.otoa ≠ [0x35, 0x30, 0x33, 0x39]) →
    ∃ (l : List Str) (bodyText : Str),
      exec (.render b) s = .next { s with returned := some (.ok (.strList l)) } ∧
      exec (.join l) s = .next { s with returned := some (.ok (.str bodyText)) } ∧
      exec (.pbody h bodyText) s = .next { s with returned := some (.ok (.body b)) }

/-- The whole way out and back: a body rendered, composed under a canonical header that selects its variant, wrapped
and decoded is the body again, with that header and its length (R166, R189, R209). -/
def Obligations.ComposedBodyDecodesBack : Prop :=
  ∀ (b : Body) (trn role ot : Str) (s : State) (body : Str), s.params.Legal →
    bodyMatches { trn := trn, len := [], role := role, ot := ot } b →
    trn.length = 2 → ot.length = 2 → SEP ∉ trn → SEP ∉ ot → s.params.etx ∉ trn → s.params.etx ∉ ot →
    (∀ f ∈ renderBody b, SEP ∉ f ∧ s.params.etx ∉ f) →
    (∀ x, b = .sessionRequest x → toLocal s.params x.pwd = x.pwd ∧ toLocal s.params x.npwd = x.npwd) →
    (∀ x, b = .submitShortMessage x → x.otoa ≠ [0x35, 0x30, 0x33, 0x39]) →
    body = joinFields (renderBody b) →
    body.length ≤ 99982 →
    ∃ m f sum : Str,
      exec (.compose trn role ot (renderBody b)) s = .next { s with returned := some (.ok (.str m)) } ∧
      exec (.wrap m) s = .next { s with returned := some (.ok (.str f)) } ∧
      exec (.decode f) s = .next { s with returned := some (.ok (.decoded
        { trn := trn, len := dec 5 (body.length + 17), role := role, ot := ot } b sum)) }
end

