-- ==== Sys2Proof/Laws/State.lean ====
section
/-! SUPPORT. One lemma per field per update of State, so that no proof unfolds an update. -/

namespace Sys2Proof.Machine

@[simp] theorem State.present_params (s : State) (w : Issue) : (s.present w).params = s.params := rfl
@[simp] theorem State.present_issued (s : State) (w : Issue) : (s.present w).issued = some w := rfl
@[simp] theorem State.present_returned (s : State) (w : Issue) : (s.present w).returned = s.returned := rfl

@[simp] theorem State.begun_params (s : State) : s.begun.params = s.params := rfl
@[simp] theorem State.begun_issued (s : State) : s.begun.issued = none := rfl
@[simp] theorem State.begun_returned (s : State) : s.begun.returned = none := rfl

@[simp] theorem State.answered_params (s : State) (r : Response) : (s.answered r).params = s.params := rfl
@[simp] theorem State.answered_issued (s : State) (r : Response) : (s.answered r).issued = s.issued := rfl
@[simp] theorem State.answered_returned (s : State) (r : Response) : (s.answered r).returned = some r := rfl

@[simp] theorem State.applyReset_params (s : State) : s.applyReset.params = s.params := rfl
@[simp] theorem State.applyReset_issued (s : State) : s.applyReset.issued = none := rfl
@[simp] theorem State.applyReset_returned (s : State) : s.applyReset.returned = none := rfl

@[simp] theorem State.reset_params : State.reset.params = Params.default := rfl
@[simp] theorem State.reset_issued : State.reset.issued = none := rfl
@[simp] theorem State.reset_returned : State.reset.returned = none := rfl

/-- What a taken-up transaction leaves of the state it was presented in: nothing but the parameters. -/
theorem State.begun_present (s : State) (w : Issue) : (s.present w).begun = s.begun := rfl

/-- A transaction taken up after another was answered finds the state the first one found. -/
theorem State.begun_answered (s : State) (r : Response) : (s.answered r).begun = s.begun := rfl

/-- The state a taken-up transaction runs in is fixed by the parameters. -/
theorem State.begun_eq_of_params (s t : State) (h : s.params = t.params) : s.begun = t.begun := by
  simp only [State.begun, h]

end Sys2Proof.Machine
end

