-- ==== Sys2Proof/Laws/Ops.lean ====
section
/-! SUPPORT. One lemma for each shared operation over the state: everything it can do. -/

namespace Sys2Proof.Machine

/-- Delivering results writes the response and nothing else. -/
theorem deliver_eq (s : State) (r : Results) : deliver s r = .next { s with returned := some (.ok r) } := rfl

/-- Raising an error writes its name into the response and nothing else. -/
theorem raise_eq (s : State) (e : Error) : raise s e = .next { s with returned := some (.raised e) } := rfl

@[simp] theorem answer_ok (s : State) (r : Results) :
    answer s (.ok r) = .next { s with returned := some (.ok r) } := rfl

@[simp] theorem answer_error (s : State) (e : Error) :
    answer s (.error e) = .next { s with returned := some (.raised e) } := rfl

/-- The response an outcome stands for. -/
def responseOf : Except Error Results → Response
  | .ok r => .ok r
  | .error e => .raised e

/-- An answer writes the response and nothing else, whichever way the operation ended. -/
theorem answer_eq (s : State) (outcome : Except Error Results) :
    answer s outcome = .next { s with returned := some (responseOf outcome) } := by
  cases outcome <;> rfl

/-- The capacity refuses exactly where it is given and a presented operand is longer. -/
theorem fitsCapacity_eq_false_iff (maxBuf : Option Nat) (w : Issue) :
    fitsCapacity maxBuf w = false ↔ ∃ n, maxBuf = some n ∧ ∃ k ∈ issueLengths w, n < k := by
  cases maxBuf <;> simp [fitsCapacity]

/-- A reserved OPSEL passes the capacity, whatever its operands. -/
theorem fitsCapacity_of_reserved (maxBuf : Option Nat) (opsel : Byte) (operands : Operands) (e : Error)
    (h : decodeCommand opsel operands = .error e) : fitsCapacity maxBuf (.command opsel operands) = true := by
  cases maxBuf <;> simp [fitsCapacity, issueLengths, h]

/-- What a fetch finds, with the reason for each case. -/
theorem fetch_cases (s : State) :
    (s.issued = none ∧ fetch s = .idle) ∨
    (∃ w, s.issued = some w ∧ fitsCapacity s.params.maxBuf w = false ∧ fetch s = .rejected .undefinedInput) ∨
    (∃ w e, s.issued = some w ∧ fitsCapacity s.params.maxBuf w = true ∧ decode w = .error e ∧
      fetch s = .rejected e) ∨
    (∃ w i, s.issued = some w ∧ fitsCapacity s.params.maxBuf w = true ∧ decode w = .ok i ∧ fetch s = .run i) := by
  unfold fetch
  cases hw : s.issued with
  | none => exact .inl ⟨rfl, rfl⟩
  | some w =>
    cases hf : fitsCapacity s.params.maxBuf w with
    | false => exact .inr (.inl ⟨w, rfl, hf, by simp [hf]⟩)
    | true =>
      cases hd : decode w with
      | error e => exact .inr (.inr (.inl ⟨w, e, rfl, hf, hd, by simp [hf, hd]⟩))
      | ok i => exact .inr (.inr (.inr ⟨w, i, rfl, hf, hd, by simp [hf, hd]⟩))

/-- A fetch sees the presented transaction and the parameters, and nothing else of the state. -/
theorem fetch_congr (s t : State) (hp : s.params = t.params) (hi : s.issued = t.issued) : fetch s = fetch t := by
  simp only [fetch, hp, hi]

/-- What one step can do. -/
theorem step_cases (s : State) :
    (fetch s = .idle ∧ step s = .next s) ∨
    (∃ e, fetch s = .rejected e ∧
      step s = .next { s with issued := none, returned := some (.raised e) }) ∨
    (∃ i, fetch s = .run i ∧ step s = exec i { s with issued := none, returned := none }) := by
  unfold step
  cases h : fetch s with
  | idle => exact .inl ⟨rfl, rfl⟩
  | rejected e => exact .inr (.inl ⟨e, rfl, rfl⟩)
  | run i => exact .inr (.inr ⟨i, rfl, rfl⟩)

end Sys2Proof.Machine
end

