-- ==== Sys2Proof/Laws/Exec.lean ====
section
/-! SUPPORT. What exec does, said once: it answers with a pure function of the instruction and the parameters. -/

namespace Sys2Proof.Machine

/-- What a transaction ends in, as a function of the parameters and the instruction alone. -/
def outcomeOf (p : Params) : Instr → Except Error Results
  | .b2h b => .ok (.str (byteToHex b))
  | .cp2h c => (codePointToHex c).map .str
  | .seq2h cps => (sequenceToHex cps).map .str
  | .h2b h => (hexToBytes h).map .str
  | .h2bits h => (hexToBits h).map .bits
  | .chunk b maxSize => (chunkBytes b maxSize).map .strList
  | .padr b width => (padToMultiple b width).map .str
  | .revenc digits => .ok (.str (reverseEncode digits))
  | .revdec r => (reverseDecode r).map .str
  | .adv value min max => .ok (.nat (advanceCounter value min max))
  | .advs value min max => (advanceDecimal value min max).map .nat
  | .rtrn value => (renderTrn value).map .str
  | .sndenc text => (encodeSender p text).map fun r => .sender r.1 r.2
  | .snddec otoa field => (decodeSender p otoa field).map .str
  | .socnt h => (semiOctetCount h).map .nat
  | .join l => .ok (.str (joinFields l))
  | .csum m => .ok (.str (checksum m))
  | .compose trn role ot bodyFields => (composeMessage trn role ot bodyFields).map .str
  | .wrap m => .ok (.str (wrapMessage p m))
  | .create currentTrn ot bodyFields => (createMessage p currentTrn ot bodyFields).map fun r => .created r.1 r.2
  | .render body => .ok (.strList (renderBody body))
  | .parse buf => (parseFrame p buf).map fun r => .parsed r.1 r.2.1 r.2.2
  | .split text => .ok (.strList (splitFields text))
  | .decode buf => (decodeFrame p buf).map fun r => .decoded r.1 r.2.1 r.2.2
  | .pbody header bodyText => (parseBody p header bodyText).map .body
  | .frameO31 fields => (parseO31 fields).map .body
  | .frameO60 fields => (parseO60 p fields).map .body
  | .frameO51 fields => (parseO5x p fields).map .body
  | .frameO52 fields => (parseO5x p fields).map .body
  | .frameO53 fields => (parseO5x p fields).map .body
  | .frameRAck2 _ sm => .ok (.body (.ack { mvp := none, sm := sm }))
  | .frameRAck3 _ mvp sm => .ok (.body (.ack { mvp := some mvp, sm := sm }))
  | .frameRNack _ ec sm => .ok (.body (.nack { ec := ec, sm := sm }))

/-- Every instruction answers with its outcome: no arm faults, none refuses, and none reads or writes anything of the
state but the parameters and the response. -/
theorem exec_eq_answer (i : Instr) (s : State) : exec i s = answer s (outcomeOf s.params i) := by
  cases i <;> rfl

/-- The state an instruction leaves. -/
theorem exec_next (i : Instr) (s : State) :
    exec i s = .next { s with returned := some (responseOf (outcomeOf s.params i)) } := by
  rw [exec_eq_answer, answer_eq]

theorem exec_of_ok (i : Instr) (s : State) (r : Results) (h : outcomeOf s.params i = .ok r) :
    exec i s = .next { s with returned := some (.ok r) } := by
  rw [exec_next, h]; rfl

theorem exec_of_error (i : Instr) (s : State) (e : Error) (h : outcomeOf s.params i = .error e) :
    exec i s = .next { s with returned := some (.raised e) } := by
  rw [exec_next, h]; rfl

/-- An instruction that is seen to deliver results has them as its outcome. -/
theorem outcome_of_exec_ok (i : Instr) (s : State) (r : Results)
    (h : exec i s = .next { s with returned := some (.ok r) }) : outcomeOf s.params i = .ok r := by
  rw [exec_next] at h
  injection h with h
  injection h with _ _ h
  injection h with h
  cases ho : outcomeOf s.params i with
  | ok x => rw [ho] at h; injection h with h; rw [h]
  | error e => rw [ho] at h; cases h

/-- An instruction that is seen to raise an error has it as its outcome. -/
theorem outcome_of_exec_error (i : Instr) (s : State) (e : Error)
    (h : exec i s = .next { s with returned := some (.raised e) }) : outcomeOf s.params i = .error e := by
  rw [exec_next] at h
  injection h with h
  injection h with _ _ h
  injection h with h
  cases ho : outcomeOf s.params i with
  | ok x => rw [ho] at h; cases h
  | error x => rw [ho] at h; injection h with h; rw [h]

end Sys2Proof.Machine
end

