-- ==== Sys2Proof/Laws/Text.lean ====
section
/-! SUPPORT. What the text forms of Machine/Operands.lean do: fields and separators, hex text, decimal text,
slices. -/

namespace Sys2Proof.Machine

/-! ### Fields -/

theorem splitFrom_ne_nil (cur t : Str) : splitFrom cur t ≠ [] := by
  induction t generalizing cur with
  | nil => simp [splitFrom]
  | cons c cs ih =>
    simp only [splitFrom]
    split
    · simp
    · exact ih _

theorem splitFrom_length (cur t : Str) : (splitFrom cur t).length = t.count SEP + 1 := by
  induction t generalizing cur with
  | nil => simp [splitFrom]
  | cons c cs ih =>
    simp only [splitFrom, List.count_cons]
    split
    · simp_all
    · simp_all

/-- A separator-free prefix goes into the field being read. -/
theorem splitFrom_append (cur f t : Str) (hf : SEP ∉ f) : splitFrom cur (f ++ t) = splitFrom (cur ++ f) t := by
  induction f generalizing cur with
  | nil => simp
  | cons c cs ih =>
    have hc : c ≠ SEP := fun h => hf (by simp [h])
    have hcs : SEP ∉ cs := fun h => hf (by simp [h])
    simp only [List.cons_append, splitFrom, hc, if_false]
    rw [ih _ hcs]
    simp

theorem splitFrom_noSep_mem (cur t : Str) (hc : SEP ∉ cur) : ∀ f ∈ splitFrom cur t, SEP ∉ f := by
  induction t generalizing cur with
  | nil => simpa [splitFrom] using hc
  | cons c cs ih =>
    simp only [splitFrom]
    split
    · intro f hf
      rcases List.mem_cons.1 hf with rfl | hf
      · exact hc
      · exact ih [] (by simp) f hf
    · rename_i h
      exact ih (cur ++ [c]) (by simp [hc, Ne.symm h])

theorem joinFields_cons_cons (f g : Str) (l : List Str) :
    joinFields (f :: g :: l) = f ++ SEP :: joinFields (g :: l) := rfl

/-- Every field after the first brings its separator. -/
theorem joinFields_cons (f : Str) (l : List Str) : joinFields (f :: l) = f ++ l.flatMap (SEP :: ·) := by
  induction l generalizing f with
  | nil => simp [joinFields]
  | cons g l ih => rw [joinFields_cons_cons, ih g]; simp

theorem joinFields_splitFrom (cur t : Str) : joinFields (splitFrom cur t) = cur ++ t := by
  induction t generalizing cur with
  | nil => simp [splitFrom, joinFields]
  | cons c cs ih =>
    simp only [splitFrom]
    split
    · rename_i h
      have h1 := ih []
      cases hs : splitFrom [] cs with
      | nil => exact absurd hs (splitFrom_ne_nil _ _)
      | cons g l =>
        rw [hs] at h1
        rw [joinFields_cons_cons, h1, h]
        simp
    · rw [ih]; simp

/-- JOIN undoes SPLIT on every string (R180). -/
theorem joinFields_splitFields (t : Str) : joinFields (splitFields t) = t := by
  simpa [splitFields] using joinFields_splitFrom [] t

theorem splitFrom_joinFields (cur f : Str) (l : List Str) (h : ∀ g ∈ f :: l, SEP ∉ g) :
    splitFrom cur (joinFields (f :: l)) = (cur ++ f) :: l := by
  induction l generalizing cur f with
  | nil =>
    have := splitFrom_append cur f [] (h f (by simp))
    simpa [joinFields, splitFrom] using this
  | cons g l ih =>
    rw [joinFields_cons_cons, splitFrom_append cur f _ (h f (by simp))]
    simp only [splitFrom, if_true]
    rw [ih [] g (fun x hx => h x (by simp [List.mem_cons.1 hx]))]
    simp

/-- SPLIT undoes JOIN on a list of at least one field, none with a separator in it (R160). -/
theorem splitFields_joinFields (l : List Str) (hne : l ≠ []) (h : ∀ f ∈ l, SEP ∉ f) :
    splitFields (joinFields l) = l := by
  cases l with
  | nil => exact absurd rfl hne
  | cons f l => simpa [splitFields] using splitFrom_joinFields [] f l h

theorem splitFields_ne_nil (t : Str) : splitFields t ≠ [] := splitFrom_ne_nil _ _

theorem splitFields_length (t : Str) : (splitFields t).length = t.count SEP + 1 := splitFrom_length _ _

theorem splitFields_noSep (t : Str) : ∀ f ∈ splitFields t, SEP ∉ f := splitFrom_noSep_mem [] t (by simp)

theorem noSep_iff (f : Str) : noSep f = true ↔ SEP ∉ f := by
  simp [noSep]

theorem bodyFieldsOk_iff (l : List Str) : bodyFieldsOk l = true ↔ l ≠ [] ∧ ∀ f ∈ l, SEP ∉ f := by
  simp [bodyFieldsOk, noSep_iff]

theorem joinFields_length (f : Str) (l : List Str) :
    (joinFields (f :: l)).length = f.length + (l.map fun g => g.length + 1).sum := by
  rw [joinFields_cons]
  simp [List.length_flatMap]

/-- A byte of joined fields is the separator or stands in a field. -/
theorem mem_joinFields (l : List Str) (c : Byte) (h : c ∈ joinFields l) : c = SEP ∨ ∃ f ∈ l, c ∈ f := by
  cases l with
  | nil => simp [joinFields] at h
  | cons f l =>
    rw [joinFields_cons, List.mem_append, List.mem_flatMap] at h
    rcases h with h | ⟨g, hg, h⟩
    · exact .inr ⟨f, by simp, h⟩
    · rcases List.mem_cons.1 h with h | h
      · exact .inl h
      · exact .inr ⟨g, by simp [hg], h⟩

/-! ### Hex text -/

theorem hexval_hexDigit : ∀ n : BitVec 4, hexval (hexDigit n) = some n := by decide

theorem hexDigit_map_hexval : ∀ c : Byte, ((hexval c).map hexDigit).getD c = c := by decide

theorem hexDigit_of_hexval (c : Byte) (n : BitVec 4) (h : hexval c = some n) : hexDigit n = c := by
  simpa [h] using hexDigit_map_hexval c

theorem isHexDigit_hexDigit : ∀ n : BitVec 4, isHexDigit (hexDigit n) = true := by decide

theorem hexval_isSome : ∀ c : Byte, (hexval c).isSome = isHexDigit c := by decide

theorem byteToHex_eq (b : Byte) :
    byteToHex b = [HEXDIG.getD (b.toNat / 16) 0, HEXDIG.getD (b.toNat % 16) 0] := by
  revert b; decide

theorem byteToHex_length (b : Byte) : (byteToHex b).length = 2 := rfl

theorem hexText_length (b : Str) : (hexText b).length = 2 * b.length := by
  simp only [hexText, List.length_flatMap, byteToHex_length, List.map_const', List.sum_replicate_nat]
  omega

theorem hexText_isHex (b : Str) : ∀ c ∈ hexText b, isHexDigit c = true := by
  intro c h
  simp only [hexText, List.mem_flatMap, byteToHex, List.mem_cons, List.not_mem_nil, or_false] at h
  obtain ⟨x, -, rfl | rfl⟩ := h <;> exact isHexDigit_hexDigit _

theorem hexText_cons (c : Byte) (b : Str) : hexText (c :: b) = byteToHex c ++ hexText b := rfl

theorem nibbles_byte : ∀ c : Byte,
    BitVec.ofNat 8 ((c.extractLsb' 4 4).toNat * 16 + (c.extractLsb' 0 4).toNat) = c := by decide

theorem hexNibbles_hexText (b : Str) :
    ∃ ns, hexNibbles (hexText b) = some ns ∧ nibblePairs ns = some b := by
  induction b with
  | nil => exact ⟨[], rfl, rfl⟩
  | cons c b ih =>
    obtain ⟨ns, h1, h2⟩ := ih
    refine ⟨c.extractLsb' 4 4 :: c.extractLsb' 0 4 :: ns, ?_, ?_⟩
    · simp [hexText_cons, byteToHex, hexNibbles, hexval_hexDigit, h1]
    · simp only [nibblePairs, h2, nibbles_byte]

/-- Hex decoding answers nibbles exactly for hex digits. -/
theorem hexNibbles_isSome (h : Str) : (hexNibbles h).isSome = h.all isHexDigit := by
  induction h with
  | nil => rfl
  | cons c cs ih =>
    rw [List.all_cons, ← ih, ← hexval_isSome c]
    cases h1 : hexval c <;> cases h2 : hexNibbles cs <;> simp [hexNibbles, h1, h2]

theorem hexNibbles_map (h : Str) (ns : List (BitVec 4)) (e : hexNibbles h = some ns) :
    ns.map hexDigit = h := by
  induction h generalizing ns with
  | nil => simp_all [hexNibbles]
  | cons c cs ih =>
    cases h1 : hexval c with
    | none => simp [hexNibbles, h1] at e
    | some n =>
      cases h2 : hexNibbles cs with
      | none => simp [hexNibbles, h1, h2] at e
      | some ms =>
        simp only [hexNibbles, h1, h2, Option.some.injEq] at e
        subst e
        simp [hexDigit_of_hexval c n h1, ih ms h2]

theorem byte_nibbles : ∀ hi lo : BitVec 4,
    byteToHex (BitVec.ofNat 8 (hi.toNat * 16 + lo.toNat)) = [hexDigit hi, hexDigit lo] := by decide

/-- Pairs of nibbles exist exactly for an even number, and their hex text is the digits of the nibbles. -/
theorem nibblePairs_spec : ∀ ns : List (BitVec 4),
    (ns.length % 2 = 1 ∧ nibblePairs ns = none) ∨
    (ns.length % 2 = 0 ∧ ∃ b, nibblePairs ns = some b ∧ hexText b = ns.map hexDigit)
  | [] => .inr ⟨rfl, [], rfl, rfl⟩
  | [_] => .inl ⟨rfl, rfl⟩
  | hi :: lo :: rest => by
    have hl : (hi :: lo :: rest).length % 2 = rest.length % 2 := by simp only [List.length_cons]; omega
    rw [hl]
    rcases nibblePairs_spec rest with ⟨h, e⟩ | ⟨h, b, e, hb⟩
    · exact .inl ⟨h, by simp only [nibblePairs, e]⟩
    · refine .inr ⟨h, BitVec.ofNat 8 (hi.toNat * 16 + lo.toNat) :: b, by simp only [nibblePairs, e], ?_⟩
      rw [hexText_cons, byte_nibbles, hb]; rfl

/-! ### Decimal text -/

theorem dec_length (n v : Nat) : (dec n v).length = n := by
  induction n generalizing v with
  | zero => rfl
  | succ n ih => simp [dec, ih]

theorem digit_isDigit (n : Nat) (h : n < 10) : isDigit (digit n) = true := by
  interval_cases n <;> decide

theorem digit_value (n : Nat) (h : n < 10) : (digit n).toNat - 0x30 = n := by
  interval_cases n <;> decide

theorem digit_of_value (c : Byte) (h : isDigit c = true) : digit (c.toNat - 0x30) = c ∧ c.toNat - 0x30 < 10 := by
  revert c; decide

theorem dec_isDigit (n v : Nat) : ∀ c ∈ dec n v, isDigit c = true := by
  induction n generalizing v with
  | zero => simp [dec]
  | succ n ih =>
    intro c h
    rw [dec, List.mem_append, List.mem_singleton] at h
    rcases h with h | rfl
    · exact ih _ c h
    · exact digit_isDigit _ (Nat.mod_lt _ (by decide))

theorem undec_append (s : Str) (c : Byte) : undec (s ++ [c]) = undec s * 10 + (c.toNat - 0x30) := by
  simp [undec, List.foldl_append]

/-- `undec` reads back what `dec` writes, within the width (R9). -/
theorem undec_dec (n v : Nat) (h : v < 10 ^ n) : undec (dec n v) = v := by
  induction n generalizing v with
  | zero => simp at h; subst h; rfl
  | succ n ih =>
    have h1 : v / 10 < 10 ^ n := by rw [Nat.pow_succ] at h; omega
    rw [dec, undec_append, ih _ h1, digit_value _ (Nat.mod_lt _ (by decide))]
    omega

/-- `dec` writes back what `undec` reads from digits (R9). -/
theorem dec_undec (s : Str) (h : ∀ c ∈ s, isDigit c = true) : dec s.length (undec s) = s ∧ undec s < 10 ^ s.length := by
  induction s using List.reverseRecOn with
  | nil => exact ⟨rfl, by decide⟩
  | append_singleton s c ih =>
    obtain ⟨h1, h2⟩ := ih fun x hx => h x (by simp [hx])
    obtain ⟨hd, hl⟩ := digit_of_value c (h c (by simp))
    have hv := undec_append s c
    refine ⟨?_, ?_⟩
    · rw [List.length_append, List.length_singleton, dec, hv]
      rw [show (undec s * 10 + (c.toNat - 0x30)) / 10 = undec s by omega,
        show (undec s * 10 + (c.toNat - 0x30)) % 10 = c.toNat - 0x30 by omega, h1, hd]
    · rw [List.length_append, List.length_singleton, Nat.pow_succ, hv]
      omega

theorem decimalValue_dec (n v : Nat) (hn : 0 < n) (h : v < 10 ^ n) : decimalValue (dec n v) = some v := by
  have hl := dec_length n v
  have hne : dec n v ≠ [] := by intro e; rw [e] at hl; simp at hl; omega
  have ha : (dec n v).all isDigit = true := List.all_eq_true.2 (dec_isDigit n v)
  simp [decimalValue, hne, ha, undec_dec n v h]

theorem decimalValue_none (s : Str) (h : s = [] ∨ ∃ c ∈ s, isDigit c = false) : decimalValue s = none := by
  unfold decimalValue
  rw [if_neg]
  rintro ⟨hne, ha⟩
  rcases h with h | ⟨c, hc, hd⟩
  · exact hne h
  · rw [List.all_eq_true] at ha
    simp [ha c hc] at hd

theorem decimalValue_some (s : Str) (hne : s ≠ []) (h : ∀ c ∈ s, isDigit c = true) :
    decimalValue s = some (undec s) := by
  simp [decimalValue, hne, List.all_eq_true.2 h]

end Sys2Proof.Machine
end

