-- ==== Sys2Proof/Laws/Codec.lean ====
section
/-! SUPPORT. One lemma for each shared operation of the codec: everything it can do. -/

namespace Sys2Proof.Machine

/-! ### Outcomes -/

theorem map_ok {α β : Type} (f : α → β) (x : Except Error α) (a : α) (h : x = .ok a) : x.map f = .ok (f a) := by
  rw [h]; rfl

theorem map_error {α β : Type} (f : α → β) (x : Except Error α) (e : Error) (h : x = .error e) :
    x.map f = .error e := by
  rw [h]; rfl

theorem map_eq_ok (α β : Type) (f : α → β) (x : Except Error α) (b : β) :
    x.map f = .ok b ↔ ∃ a, x = .ok a ∧ f a = b := by
  cases x <;> simp [Except.map]

theorem map_eq_error (α β : Type) (f : α → β) (x : Except Error α) (e : Error) :
    x.map f = .error e ↔ x = .error e := by
  cases x <;> simp [Except.map]

/-! ### Hex text and sender -/

/-- H2B answers exactly on hex text, with the bytes it is the text of (R103). -/
theorem hexToBytes_cases (h : Str) :
    (∃ b, h = hexText b ∧ hexToBytes h = .ok b) ∨
    ((∀ b, h ≠ hexText b) ∧ hexToBytes h = .error .undefinedInput) := by
  have back : ∀ b, hexToBytes (hexText b) = .ok b := by
    intro b
    obtain ⟨ns, h1, h2⟩ := hexNibbles_hexText b
    simp [hexToBytes, h1, h2]
  by_cases hx : ∃ b, h = hexText b
  · obtain ⟨b, rfl⟩ := hx
    exact .inl ⟨b, rfl, back b⟩
  · refine .inr ⟨fun b e => hx ⟨b, e⟩, ?_⟩
    unfold hexToBytes
    cases hn : hexNibbles h with
    | none => rfl
    | some ns =>
      rcases nibblePairs_spec ns with ⟨-, h4⟩ | ⟨-, b, -, h5⟩
      · simp [h4]
      · exact absurd ⟨b, by rw [h5, hexNibbles_map h ns hn]⟩ hx

theorem hexToBytes_hexText (b : Str) : hexToBytes (hexText b) = .ok b := by
  obtain ⟨ns, h1, h2⟩ := hexNibbles_hexText b
  simp [hexToBytes, h1, h2]

theorem semiOctetCount_hexText (b : Str) : semiOctetCount (hexText b) = .ok (semiOctetScan (hexText b)) := by
  simp [semiOctetCount, hexText_length]

/-- What SNDENC can do: a numeric text as it stands, a packed one with its count, or a count that does not fit
(R144). -/
theorem encodeSender_cases (p : Params) (text : Str) :
    (text.all isDigit = true ∧ encodeSender p text = .ok ([], text)) ∨
    ∃ h n, text.all isDigit = false ∧ h = hexText (pack7 p (toWire p text)) ∧ n = semiOctetScan h ∧
      ((n ≤ 255 ∧ encodeSender p text = .ok (ALNUM_OTOA, byteToHex (BitVec.ofNat 8 n) ++ h)) ∨
        (255 < n ∧ encodeSender p text = .error .undefinedInput)) := by
  cases hd : text.all isDigit with
  | true => exact .inl ⟨rfl, by simp only [encodeSender, hd, if_true]⟩
  | false =>
    refine .inr ⟨_, _, rfl, rfl, rfl, ?_⟩
    simp only [encodeSender, hd, semiOctetCount_hexText]
    by_cases h : 255 < semiOctetScan (hexText (pack7 p (toWire p text)))
    · exact .inr ⟨h, by simp [h]⟩
    · exact .inl ⟨Nat.le_of_not_lt h, by simp [h]⟩

/-- What SNDDEC can do (R145). -/
theorem decodeSender_cases (p : Params) (otoa field : Str) :
    (otoa ≠ ALNUM_OTOA ∧ decodeSender p otoa field = .ok field) ∨
    (otoa = ALNUM_OTOA ∧ ∃ c d b, field = c :: d :: hexText b ∧
      decodeSender p otoa field = .ok (toLocal p (unpack7 p b))) ∨
    (otoa = ALNUM_OTOA ∧ (∀ c d b, field ≠ c :: d :: hexText b) ∧
      decodeSender p otoa field = .error .undefinedInput) := by
  by_cases ho : otoa = ALNUM_OTOA
  · subst ho
    match field with
    | [] => exact .inr (.inr ⟨rfl, by simp, by simp [decodeSender]⟩)
    | [_] => exact .inr (.inr ⟨rfl, by simp, by simp [decodeSender]⟩)
    | c :: d :: rest =>
      rcases hexToBytes_cases rest with ⟨b, h1, h2⟩ | ⟨h1, h2⟩
      · exact .inr (.inl ⟨rfl, c, d, b, by rw [h1], by simp [decodeSender, h2]⟩)
      · refine .inr (.inr ⟨rfl, fun c' d' b e => ?_, by simp [decodeSender, h2]⟩)
        injection e with _ e
        injection e with _ e
        exact h1 b e
  · exact .inl ⟨ho, by simp [decodeSender, ho]⟩

/-! ### Composer -/

theorem checksum_toNat (m : Str) (t : Byte) :
    (m.foldl (fun t c => t + c) t).toNat = (t.toNat + (m.map BitVec.toNat).sum) % 256 := by
  induction m generalizing t with
  | nil => simpa using (Nat.mod_eq_of_lt t.isLt).symm
  | cons c m ih =>
    rw [List.foldl_cons, ih]
    simp only [BitVec.toNat_add, List.map_cons, List.sum_cons]
    omega

/-- CSUM as a sum of natural numbers (R161). -/
theorem checksum_eq (m : Str) :
    checksum m = [HEXDIG.getD ((m.map BitVec.toNat).sum % 256 / 16) 0,
      HEXDIG.getD ((m.map BitVec.toNat).sum % 256 % 16) 0] := by
  rw [checksum, byteToHex_eq, checksum_toNat]; simp

theorem checksum_length (m : Str) : (checksum m).length = CHECKSUM_LEN := rfl

/-- Everything before the checksum in a composed message of length n (R162, R166). -/
def uncheckedMessage (trn role ot : Str) (n : Nat) (body : Str) : Str :=
  trn ++ SEP :: dec 5 n ++ SEP :: role ++ SEP :: ot ++ SEP :: body ++ [SEP]

theorem uncheckedMessage_length (trn role ot : Str) (n : Nat) (body : Str) :
    (uncheckedMessage trn role ot n body).length =
      trn.length + role.length + ot.length + body.length + 10 := by
  simp [uncheckedMessage, dec_length]; omega

/-- What COMPOSE can do (R162): the message whose `len` writes its own length, or a length that does not fit. -/
theorem composeMessage_eq (trn role ot : Str) (fields : List Str) (n : Nat)
    (hn : n = trn.length + role.length + ot.length + (joinFields fields).length + 12) :
    composeMessage trn role ot fields =
      if 99999 < n then .error .undefinedInput
      else .ok (uncheckedMessage trn role ot n (joinFields fields) ++
        checksum (uncheckedMessage trn role ot n (joinFields fields))) := by
  have h : (joinFields [trn, PROVISIONAL_LEN, role, ot] ++ SEP :: joinFields fields).length + 3 = n := by
    simp [joinFields, PROVISIONAL_LEN]; omega
  have h2 : joinFields [trn, dec 5 n, role, ot] ++ SEP :: joinFields fields ++ [SEP] =
      uncheckedMessage trn role ot n (joinFields fields) := by
    simp [joinFields, uncheckedMessage]
  unfold composeMessage
  simp only [h, h2]
  rfl

/-! ### Parser -/

/-- Parser step 1 (R182). -/
theorem startsFrame_iff (p : Params) (buf : Str) :
    startsFrame p buf = true ↔ 14 ≤ buf.length ∧ buf[0]? = some p.stx := by
  rw [startsFrame, Bool.and_eq_true]
  exact and_congr decide_eq_true_iff beq_iff_eq

/-- Parser step 2 (R183) passes exactly where `endsFrame` says. -/
theorem endError_eq_none_iff (p : Params) (buf : Str) : endError p buf = none ↔ endsFrame p buf := by
  unfold endError endsFrame
  cases p.etxCheck with
  | lastByte => simp
  | firstEtx =>
    rcases List.eq_nil_or_concat buf with rfl | ⟨f, x, rfl⟩
    · simp
    · rw [List.concat_eq_append]
      simp only [List.dropLast_concat, List.getLast?_concat, Option.some.injEq]
      cases hi : f.findIdx? (· == p.etx) with
      | some e =>
        have hl := (List.findIdx?_eq_some_iff_findIdx_eq.1 hi).1
        have hm : p.etx ∈ f := by
          have := List.findIdx?_isSome (p := (· == p.etx)) (xs := f)
          simpa [hi] using this
        simp [List.findIdx?_append, hi, hm]; omega
      | none =>
        have hm : p.etx ∉ f := by
          intro h
          have := List.findIdx?_eq_none_iff.1 hi _ h
          simp at this
        by_cases hx : x = p.etx <;> simp [List.findIdx?_append, hi, hm, hx, List.findIdx?_cons]

/-- Parser step 2 under FIRST_ETX raises one of two errors (R183). -/
theorem endError_cases (p : Params) (buf : Str) :
    endError p buf = none ∨ endError p buf = some .messageTooLong ∨
    (endError p buf = some .invalidMessage ∧ p.etxCheck = .firstEtx ∧ p.etx ∉ buf) := by
  unfold endError
  cases p.etxCheck with
  | lastByte => by_cases h : buf.getLast? = some p.etx <;> simp [h]
  | firstEtx =>
    cases hi : buf.findIdx? (· == p.etx) with
    | none =>
      refine .inr (.inr ⟨rfl, rfl, fun h => ?_⟩)
      have := List.findIdx?_eq_none_iff.1 hi _ h
      simp at this
    | some e => by_cases h : e + 1 = buf.length <;> simp [h]

/-- What PARSE can do, step by step (R181, R235). -/
theorem parseFrame_cases (p : Params) (buf : Str) :
    (startsFrame p buf = false ∧ parseFrame p buf = .error .invalidMessage) ∨
    (startsFrame p buf = true ∧ ∃ e, endError p buf = some e ∧ parseFrame p buf = .error e) ∨
    (startsFrame p buf = true ∧ endError p buf = none ∧
      ((splitFields (headerRegion buf)).length ≠ 4 ∧ parseFrame p buf = .error .invalidHeader ∨
      ∃ trn len role ot, splitFields (headerRegion buf) = [trn, len, role, ot] ∧
        (carvedLength p buf len = none ∧ parseFrame p buf = .error .invalidMessage ∨
        ∃ k, carvedLength p buf len = some k ∧
          parseFrame p buf = .ok ({ trn := trn, len := len, role := role, ot := ot },
            slice buf 15 (15 + k), slice buf (16 + k) (16 + k + 2))))) := by
  cases hs : startsFrame p buf with
  | false => exact .inl ⟨rfl, by simp [parseFrame, hs]⟩
  | true =>
    cases he : endError p buf with
    | some e => exact .inr (.inl ⟨rfl, e, rfl, by simp [parseFrame, hs, he]⟩)
    | none =>
      refine .inr (.inr ⟨rfl, rfl, ?_⟩)
      by_cases hl : (splitFields (headerRegion buf)).length = 4
      · right
        match hf : splitFields (headerRegion buf), hl with
        | [trn, len, role, ot], _ =>
          refine ⟨trn, len, role, ot, rfl, ?_⟩
          cases hc : carvedLength p buf len with
          | none => exact .inl ⟨rfl, by simp [parseFrame, hs, he, hf, hc]⟩
          | some k => exact .inr ⟨k, rfl, by simp [parseFrame, hs, he, hf, hc, HEADER_LEN, CHECKSUM_LEN]⟩
      · refine .inl ⟨hl, ?_⟩
        unfold parseFrame
        simp only [hs, he, if_true]
        split
        · rename_i h; rw [h] at hl; exact absurd rfl hl
        · rfl

/-- The length that carves a frame (R185): what the `len` field writes less 17, where the delimiters and separators
stand in their places. -/
theorem carvedLength_eq_some_iff (p : Params) (buf len : Str) (k : Nat) :
    carvedLength p buf len = some k ↔ decimalValue len = some (k + 17) ∧ buf.length = k + 19 ∧
      buf[0]? = some p.stx ∧ buf[14]? = some SEP ∧ buf[15 + k]? = some SEP ∧ buf.getLast? = some p.etx := by
  unfold carvedLength declaredBodyLength
  cases hd : decimalValue len with
  | none => simp
  | some d =>
    by_cases h : d < 17
    · simp [HEADER_LEN, CHECKSUM_LEN, h]; omega
    · simp only [HEADER_LEN, CHECKSUM_LEN, h, if_false]
      by_cases hk : d = k + 17
      · subst hk
        simp only [show k + 17 - 13 - 2 - 2 = k by omega, carves, HEADER_LEN, CHECKSUM_LEN]
        rw [show (2 + 13 + k) = 15 + k by omega]
        simp [show 1 + 13 + 1 + k + 1 + 2 + 1 = k + 19 by omega, and_assoc]
      · have : ¬ d - 13 - 2 - 2 = k := by omega
        simp only [Option.some.injEq, hk, false_and, iff_false]
        cases carves p buf (d - 13 - 2 - 2) <;> simp [this]

/-! ### Body schemas -/

/-- The one error PBODY raises under a known operation of role O is invalid_command_syntax, and under role R it is
unsupported_operation (R207, R208). -/
theorem parseO31_cases (f : List Str) :
    (∃ adc pid, f = [adc, pid] ∧ parseO31 f = .ok (.addressInfoRequest { adc := adc, pid := pid })) ∨
    (f.length ≠ 2 ∧ parseO31 f = .error .invalidCommandSyntax) := by
  by_cases h : f.length = 2
  · match f, h with
    | [adc, pid], _ => exact .inl ⟨adc, pid, rfl, rfl⟩
  · exact .inr ⟨h, by simp [parseO31, h]⟩

theorem parseO60_cases (p : Params) (f : List Str) :
    (∃ b : SessionRequest, f = renderBody (.sessionRequest b) ∧
      parseO60 p f = .ok (.sessionRequest { b with pwd := toLocal p b.pwd, npwd := toLocal p b.npwd })) ∨
    (f.length ≠ 12 ∧ parseO60 p f = .error .invalidCommandSyntax) := by
  by_cases h : f.length = 12
  · match f, h with
    | [a, b, c, d, e, g, i, j, k, l, m, n], _ =>
      exact .inl ⟨⟨a, b, c, d, e, g, i, j, k, l, m, n⟩, rfl, rfl⟩
  · exact .inr ⟨h, by simp [parseO60, h]⟩

/-- A list is its fields, numbered. -/
theorem eq_fieldAt (f : List Str) : f = (List.range f.length).map (fieldAt f) := by
  apply List.ext_getElem (by simp)
  intro i h1 h2
  simp [fieldAt, h1]

theorem fields33 (f : List Str) (h : f.length = 33) :
    ∃ b : SubmitShortMessage, f = renderBody (.submitShortMessage b) := by
  have e := eq_fieldAt f
  rw [h] at e
  exact ⟨⟨_, _, _, _, _, _, _, _, _, _, _, _, _, _, _, _, _, _, _, _, _, _, _, _, _, _, _, _, _, _, _, _, _⟩, e⟩

theorem parseO5x_render (p : Params) (b : SubmitShortMessage) :
    parseO5x p (renderBody (.submitShortMessage b)) =
      match decodeSender p b.otoa b.oadc with
      | .error _ => .error .invalidCommandSyntax
      | .ok sender => .ok (.submitShortMessage { b with oadc := sender }) := rfl

theorem parseO5x_cases (p : Params) (f : List Str) :
    (∃ (b : SubmitShortMessage) (text : Str), f = renderBody (.submitShortMessage b) ∧
      decodeSender p b.otoa b.oadc = .ok text ∧
      parseO5x p f = .ok (.submitShortMessage { b with oadc := text })) ∨
    (parseO5x p f = .error .invalidCommandSyntax ∧
      (f.length ≠ 33 ∨ ∃ b : SubmitShortMessage, f = renderBody (.submitShortMessage b) ∧
        decodeSender p b.otoa b.oadc = .error .undefinedInput)) := by
  by_cases h : f.length = 33
  · obtain ⟨b, rfl⟩ := fields33 f h
    rw [parseO5x_render]
    rcases decodeSender_cases p b.otoa b.oadc with ⟨-, h2⟩ | ⟨-, _, _, _, -, h2⟩ | ⟨-, -, h2⟩
    · exact .inl ⟨b, _, rfl, h2, by rw [h2]⟩
    · exact .inl ⟨b, _, rfl, h2, by rw [h2]⟩
    · exact .inr ⟨by rw [h2], .inr ⟨b, rfl, h2⟩⟩
  · exact .inr ⟨by simp [parseO5x, h], .inl h⟩

theorem parseResponse_cases (f : List Str) :
    (∃ sm, f = [MARK_A, sm] ∧ parseResponse f = .ok (.ack { mvp := none, sm := sm })) ∨
    (∃ mvp sm, f = [MARK_A, mvp, sm] ∧ parseResponse f = .ok (.ack { mvp := some mvp, sm := sm })) ∨
    (∃ ec sm, f = [MARK_N, ec, sm] ∧ parseResponse f = .ok (.nack { ec := ec, sm := sm })) ∨
    (parseResponse f = .error .unsupportedOperation ∧ (∀ sm, f ≠ [MARK_A, sm]) ∧
      ∀ x sm, f ≠ [MARK_A, x, sm] ∧ f ≠ [MARK_N, x, sm]) := by
  match f with
  | [] => exact .inr (.inr (.inr ⟨rfl, by simp, by simp⟩))
  | [_] => exact .inr (.inr (.inr ⟨rfl, by simp, by simp⟩))
  | [m, sm] =>
    by_cases h : m = MARK_A
    · subst h; exact .inl ⟨sm, rfl, rfl⟩
    · exact .inr (.inr (.inr ⟨by simp [parseResponse, fieldAt, h], by simp [h], by simp⟩))
  | [m, x, sm] =>
    by_cases h : m = MARK_A
    · subst h; exact .inr (.inl ⟨x, sm, rfl, rfl⟩)
    · by_cases hn : m = MARK_N
      · subst hn; exact .inr (.inr (.inl ⟨x, sm, rfl, rfl⟩))
      · exact .inr (.inr (.inr ⟨by simp [parseResponse, fieldAt, h, hn], by simp, by simp [h, hn]⟩))
  | _ :: _ :: _ :: _ :: _ => exact .inr (.inr (.inr ⟨by simp [parseResponse], by simp, by simp⟩))

/-- What PBODY can do: which schema it turns to, by role and operation type (R200, R207). -/
theorem parseBody_cases (p : Params) (h : Header) (bodyText : Str) :
    (h.role = ROLE_O ∧ h.ot = OT_31 ∧ parseBody p h bodyText = parseO31 (splitFields bodyText)) ∨
    (h.role = ROLE_O ∧ h.ot = OT_60 ∧ parseBody p h bodyText = parseO60 p (splitFields bodyText)) ∨
    (h.role = ROLE_O ∧ (h.ot = OT_51 ∨ h.ot = OT_52 ∨ h.ot = OT_53) ∧
      parseBody p h bodyText = parseO5x p (splitFields bodyText)) ∨
    (h.role = ROLE_R ∧ parseBody p h bodyText = parseResponse (splitFields bodyText)) ∨
    (((h.role = ROLE_O ∧ h.ot ∉ [OT_31, OT_60, OT_51, OT_52, OT_53]) ∨ (h.role ≠ ROLE_O ∧ h.role ≠ ROLE_R)) ∧
      parseBody p h bodyText = .error .unsupportedOperation) := by
  unfold parseBody
  by_cases hO : h.role = ROLE_O
  · by_cases h1 : h.ot = OT_31
    · exact .inl ⟨hO, h1, by simp [hO, h1]⟩
    by_cases h2 : h.ot = OT_60
    · exact .inr (.inl ⟨hO, h2, by simp [hO, h2, OT_60, OT_31]⟩)
    by_cases h3 : h.ot = OT_51 ∨ h.ot = OT_52 ∨ h.ot = OT_53
    · exact .inr (.inr (.inl ⟨hO, h3, by simp only [hO, h1, h2, h3, if_true, if_false]⟩))
    · refine .inr (.inr (.inr (.inr ⟨.inl ⟨hO, ?_⟩, by simp only [hO, h1, h2, h3, if_true, if_false]⟩)))
      simp_all
  · by_cases hR : h.role = ROLE_R
    · exact .inr (.inr (.inr (.inl ⟨hR, by simp [hR, ROLE_R, ROLE_O]⟩)))
    · exact .inr (.inr (.inr (.inr ⟨.inr ⟨hO, hR⟩, by simp [hO, hR]⟩)))

/-- What DECODE can do (R189). -/
theorem decodeFrame_cases (p : Params) (buf : Str) :
    (∃ e, parseFrame p buf = .error e ∧ decodeFrame p buf = .error e) ∨
    (∃ h bodyText sum e, parseFrame p buf = .ok (h, bodyText, sum) ∧ parseBody p h bodyText = .error e ∧
      decodeFrame p buf = .error e) ∨
    (∃ h bodyText sum b, parseFrame p buf = .ok (h, bodyText, sum) ∧ parseBody p h bodyText = .ok b ∧
      decodeFrame p buf = .ok (h, b, sum)) := by
  unfold decodeFrame
  rcases hp : parseFrame p buf with e | ⟨h, bodyText, sum⟩
  · exact .inl ⟨e, rfl, rfl⟩
  · cases hb : parseBody p h bodyText with
    | error e => exact .inr (.inl ⟨h, bodyText, sum, e, rfl, hb, by simp only [hb]⟩)
    | ok b => exact .inr (.inr ⟨h, bodyText, sum, b, rfl, hb, by simp only [hb]⟩)

end Sys2Proof.Machine
end

