-- ==== Sys2Proof/Laws/PerInstr.lean ====
section
/-! SUPPORT. What is said of every instruction, one lemma a constructor: the word under which an instruction is
presented is the word of its row of spec/opcode_table.json. -/

namespace Sys2Proof.Laws

/-- The fixed bits of a row of spec/opcode_table.json. -/
structure Row where
  bits    : Nat
  mask    : Nat
  pattern : Nat
deriving DecidableEq, Repr

/-- A row of format CMD: eight bits, all fixed (R80). -/
def opselRow (opsel : Nat) : Row := { bits := 8, mask := 0xFF, pattern := opsel }

/-- A row of role O: the body's first byte is free (R69). -/
def requestRow (pattern : Nat) : Row := { bits := 32, mask := 0xFFFFFF00, pattern := pattern }

/-- A row of role R: the operation type is free (R69). -/
def responseRow (pattern : Nat) : Row := { bits := 32, mask := 0xFF0000FF, pattern := pattern }

/-- The row of each instruction. -/
def rowOf : Instr → Row
  | .b2h _ => opselRow 0x10
  | .cp2h _ => opselRow 0x11
  | .seq2h _ => opselRow 0x12
  | .h2b _ => opselRow 0x13
  | .h2bits _ => opselRow 0x14
  | .chunk _ _ => opselRow 0x15
  | .padr _ _ => opselRow 0x16
  | .revenc _ => opselRow 0x20
  | .revdec _ => opselRow 0x21
  | .adv _ _ _ => opselRow 0x30
  | .advs _ _ _ => opselRow 0x31
  | .rtrn _ => opselRow 0x32
  | .sndenc _ => opselRow 0x40
  | .snddec _ _ => opselRow 0x41
  | .socnt _ => opselRow 0x42
  | .join _ => opselRow 0x50
  | .csum _ => opselRow 0x51
  | .compose _ _ _ _ => opselRow 0x52
  | .wrap _ => opselRow 0x53
  | .create _ _ _ => opselRow 0x54
  | .render _ => opselRow 0x55
  | .parse _ => opselRow 0x60
  | .split _ => opselRow 0x61
  | .decode _ => opselRow 0x62
  | .pbody _ _ => opselRow 0x70
  | .frameO31 _ => requestRow 0x4F333100
  | .frameO60 _ => requestRow 0x4F363000
  | .frameO51 _ => requestRow 0x4F353100
  | .frameO52 _ => requestRow 0x4F353200
  | .frameO53 _ => requestRow 0x4F353300
  | .frameRAck2 _ _ => responseRow 0x52000041
  | .frameRAck3 _ _ _ => responseRow 0x52000041
  | .frameRNack _ _ _ => responseRow 0x5200004E

/-- The word fits the row's width and has the row's fixed bits. -/
def Row.holds (r : Row) (w : Nat) : Prop := w < 2 ^ r.bits ∧ w &&& r.mask = r.pattern

/-- Every instruction is presented under the word of its row. -/
def RowMatch.Statement (i : Instr) : Prop := i.wellFormed = true → (rowOf i).holds (issueWord (encode i))

/-- An OPSEL is a word of its own row. -/
theorem opsel_word (n : Nat) (h : n < 256) : (opselRow n).holds n := by
  refine ⟨h, ?_⟩
  show n &&& (2 ^ 8 - 1) = n
  rw [Nat.and_two_pow_sub_one_eq_mod, Nat.mod_eq_of_lt h]

/-- A request word keeps its 24 fixed bits whatever the body begins with. -/
theorem request_word (pattern : Nat) (h : pattern % 256 = 0) (hp : pattern < 2 ^ 32) (b : Byte) :
    (requestRow pattern).holds (pattern + b.toNat) := by
  have hb := b.isLt
  refine ⟨by simp only [requestRow]; omega, ?_⟩
  show (pattern + b.toNat) &&& 0xFFFFFF00 = pattern
  apply Nat.eq_of_testBit_eq
  intro i
  obtain ⟨q, rfl⟩ : ∃ q, pattern = 2 ^ 8 * q := ⟨pattern / 256, by omega⟩
  rw [Nat.testBit_and, Nat.testBit_two_pow_mul_add _ hb]
  have hq : q < 2 ^ 24 := by omega
  rw [Nat.testBit_two_pow_mul]
  by_cases h8 : i < 8
  · have hm : Nat.testBit 0xFFFFFF00 i = false := by interval_cases i <;> decide
    simp [h8, hm, Nat.not_le.2 h8]
  · by_cases h32 : i < 32
    · have hm : Nat.testBit 0xFFFFFF00 i = true := by
        have : 8 ≤ i := Nat.le_of_not_lt h8
        interval_cases i <;> decide
      simp [h8, hm, Nat.le_of_not_lt h8]
    · have hz : q.testBit (i - 8) = false :=
        Nat.testBit_lt_two_pow (Nat.lt_of_lt_of_le hq (Nat.pow_le_pow_right (by decide) (by omega)))
      simp [h8, hz]

/-- A response word keeps its role and marker whatever the operation type is. -/
theorem response_word (mark : Nat) (hk : mark < 256) (o1 o2 : Byte) :
    (responseRow (0x52000000 + mark)).holds
      ((0x52 <<< 24) + (o1.toNat <<< 16) + (o2.toNat <<< 8) + mark) := by
  have h1 := o1.isLt
  have h2 := o2.isLt
  simp only [Nat.shiftLeft_eq]
  refine ⟨by simp only [responseRow]; omega, ?_⟩
  obtain ⟨y, hy, hlt⟩ : ∃ y, y = o1.toNat * 256 + o2.toNat ∧ y < 2 ^ 16 := ⟨_, rfl, by omega⟩
  have e : 0x52 * 2 ^ 24 + o1.toNat * 2 ^ 16 + o2.toNat * 2 ^ 8 + mark =
      2 ^ 24 * 0x52 + (2 ^ 8 * y + mark) := by omega
  have hin : 2 ^ 8 * y + mark < 2 ^ 24 := by omega
  have hk' : mark < 2 ^ 8 := hk
  have hk24 : mark < 2 ^ 24 := by omega
  rw [e]
  show (2 ^ 24 * 0x52 + (2 ^ 8 * y + mark)) &&& 0xFF0000FF = 2 ^ 24 * 0x52 + mark
  apply Nat.eq_of_testBit_eq
  intro i
  rw [Nat.testBit_and, Nat.testBit_two_pow_mul_add _ hin, Nat.testBit_two_pow_mul_add _ hk',
    Nat.testBit_two_pow_mul_add _ hk24]
  by_cases h8 : i < 8
  · have hm : Nat.testBit 0xFF0000FF i = true := by interval_cases i <;> decide
    simp [h8, hm, show i < 24 by omega]
  · have hmark : mark.testBit i = false :=
      Nat.testBit_lt_two_pow (Nat.lt_of_lt_of_le hk' (Nat.pow_le_pow_right (by decide) (by omega)))
    by_cases h24 : i < 24
    · have hm : Nat.testBit 0xFF0000FF i = false := by
        have : 8 ≤ i := Nat.le_of_not_lt h8
        interval_cases i <;> decide
      simp [h24, hm, hmark]
    · by_cases h32 : i < 32
      · have hm : Nat.testBit 0xFF0000FF i = true := by
          have : 24 ≤ i := Nat.le_of_not_lt h24
          interval_cases i <;> decide
        simp [h24, hm]
      · have hz : Nat.testBit 0x52 (i - 24) = false :=
          Nat.testBit_lt_two_pow
            (Nat.lt_of_lt_of_le (by decide : 0x52 < 2 ^ 8) (Nat.pow_le_pow_right (by decide) (by omega)))
        simp [h24, hz]

theorem RowMatch.b2h (b : Byte) : RowMatch.Statement (.b2h b) := fun _ => opsel_word 0x10 (by decide)
theorem RowMatch.cp2h (c : Nat) : RowMatch.Statement (.cp2h c) := fun _ => opsel_word 0x11 (by decide)
theorem RowMatch.seq2h (cps : CpSeq) : RowMatch.Statement (.seq2h cps) := fun _ => opsel_word 0x12 (by decide)
theorem RowMatch.h2b (h : Str) : RowMatch.Statement (.h2b h) := fun _ => opsel_word 0x13 (by decide)
theorem RowMatch.h2bits (h : Str) : RowMatch.Statement (.h2bits h) := fun _ => opsel_word 0x14 (by decide)
theorem RowMatch.chunk (b : Str) (maxSize : Nat) : RowMatch.Statement (.chunk b maxSize) :=
  fun _ => opsel_word 0x15 (by decide)
theorem RowMatch.padr (b : Str) (width : Nat) : RowMatch.Statement (.padr b width) :=
  fun _ => opsel_word 0x16 (by decide)
theorem RowMatch.revenc (digits : Str) : RowMatch.Statement (.revenc digits) :=
  fun _ => opsel_word 0x20 (by decide)
theorem RowMatch.revdec (r : Str) : RowMatch.Statement (.revdec r) := fun _ => opsel_word 0x21 (by decide)
theorem RowMatch.adv (value min max : Nat) : RowMatch.Statement (.adv value min max) :=
  fun _ => opsel_word 0x30 (by decide)
theorem RowMatch.advs (value : Str) (min max : Nat) : RowMatch.Statement (.advs value min max) :=
  fun _ => opsel_word 0x31 (by decide)
theorem RowMatch.rtrn (value : Nat) : RowMatch.Statement (.rtrn value) := fun _ => opsel_word 0x32 (by decide)
theorem RowMatch.sndenc (text : Str) : RowMatch.Statement (.sndenc text) := fun _ => opsel_word 0x40 (by decide)
theorem RowMatch.snddec (otoa field : Str) : RowMatch.Statement (.snddec otoa field) :=
  fun _ => opsel_word 0x41 (by decide)
theorem RowMatch.socnt (h : Str) : RowMatch.Statement (.socnt h) := fun _ => opsel_word 0x42 (by decide)
theorem RowMatch.join (l : List Str) : RowMatch.Statement (.join l) := fun _ => opsel_word 0x50 (by decide)
theorem RowMatch.csum (m : Str) : RowMatch.Statement (.csum m) := fun _ => opsel_word 0x51 (by decide)
theorem RowMatch.compose (trn role ot : Str) (bodyFields : List Str) :
    RowMatch.Statement (.compose trn role ot bodyFields) := fun _ => opsel_word 0x52 (by decide)
theorem RowMatch.wrap (m : Str) : RowMatch.Statement (.wrap m) := fun _ => opsel_word 0x53 (by decide)
theorem RowMatch.create (currentTrn : Nat) (ot : Str) (bodyFields : List Str) :
    RowMatch.Statement (.create currentTrn ot bodyFields) := fun _ => opsel_word 0x54 (by decide)
theorem RowMatch.render (body : Body) : RowMatch.Statement (.render body) := fun _ => opsel_word 0x55 (by decide)
theorem RowMatch.parse (buf : Str) : RowMatch.Statement (.parse buf) := fun _ => opsel_word 0x60 (by decide)
theorem RowMatch.split (text : Str) : RowMatch.Statement (.split text) := fun _ => opsel_word 0x61 (by decide)
theorem RowMatch.decode (buf : Str) : RowMatch.Statement (.decode buf) := fun _ => opsel_word 0x62 (by decide)
theorem RowMatch.pbody (header : Header) (bodyText : Str) : RowMatch.Statement (.pbody header bodyText) :=
  fun _ => opsel_word 0x70 (by decide)
theorem RowMatch.frameO31 (fields : List Str) : RowMatch.Statement (.frameO31 fields) :=
  fun _ => request_word 0x4F333100 (by decide) (by decide) _
theorem RowMatch.frameO60 (fields : List Str) : RowMatch.Statement (.frameO60 fields) :=
  fun _ => request_word 0x4F363000 (by decide) (by decide) _
theorem RowMatch.frameO51 (fields : List Str) : RowMatch.Statement (.frameO51 fields) :=
  fun _ => request_word 0x4F353100 (by decide) (by decide) _
theorem RowMatch.frameO52 (fields : List Str) : RowMatch.Statement (.frameO52 fields) :=
  fun _ => request_word 0x4F353200 (by decide) (by decide) _
theorem RowMatch.frameO53 (fields : List Str) : RowMatch.Statement (.frameO53 fields) :=
  fun _ => request_word 0x4F353300 (by decide) (by decide) _
theorem RowMatch.frameRAck2 (ot sm : Str) : RowMatch.Statement (.frameRAck2 ot sm) :=
  fun _ => response_word 0x41 (by decide) _ _
theorem RowMatch.frameRAck3 (ot mvp sm : Str) : RowMatch.Statement (.frameRAck3 ot mvp sm) :=
  fun _ => response_word 0x41 (by decide) _ _
theorem RowMatch.frameRNack (ot ec sm : Str) : RowMatch.Statement (.frameRNack ot ec sm) :=
  fun _ => response_word 0x4E (by decide) _ _

end Sys2Proof.Laws
end

