-- ==== Sys2Proof/Tests/Slice0.lean ====
section
/-! SUPPORT. The model's own tests. Expected values are those of spec/95_test_vectors.md (S: its Part 1; 2.x: its
Part 2; P: its Part 3) and the words of spec/30_encoding.md R69 and R80. -/

namespace Sys2Proof.Tests

open Sys2Proof.Machine

/-- The response of one instruction from the state after reset. -/
def respond (i : Instr) : Option Response :=
  match exec i State.reset with
  | .next t => t.returned
  | .fault _ => none
  | .refused _ => none

/-- The response of one step with a transaction presented under the given parameters. -/
def stepWith (p : Params) (w : Issue) : Option Response :=
  match step { State.reset with params := p, issued := some w } with
  | .next t => t.returned
  | .fault _ => none
  | .refused _ => none

/-- The default parameters under LAST_BYTE. -/
def lastByte : Params := { Params.default with etxCheck := .lastByte }

/-- The default parameters with a buffer of two bytes. -/
def smallBuffer : Params := { Params.default with maxBuf := some 2 }

/-- A text between the default delimiters. -/
def framed (text : String) : Str := 0x02 :: ascii text ++ [0x03]

/-- The good frame G of 2.6. -/
def good : Str := framed "01/00035/O/31/0234765439845/0139/9F"

/-- The header of G. -/
def goodHeader : Header := { trn := ascii "01", len := ascii "00035", role := ascii "O", ot := ascii "31" }

/-! ### Ill-formed terms that a check refuses -/

theorem test_wf_frameO31_empty : Instr.wellFormed (.frameO31 []) = false := by decide
theorem test_wf_frameO60_sep : Instr.wellFormed (.frameO60 [ascii "a/b"]) = false := by decide
theorem test_wf_frameO51_empty : Instr.wellFormed (.frameO51 []) = false := by decide
theorem test_wf_frameO52_sep : Instr.wellFormed (.frameO52 [[], [SEP]]) = false := by decide
theorem test_wf_frameO53_empty : Instr.wellFormed (.frameO53 []) = false := by decide
theorem test_wf_frameRAck2_sep : Instr.wellFormed (.frameRAck2 OT_31 [SEP]) = false := by decide
theorem test_wf_frameRAck3_mvp_sep : Instr.wellFormed (.frameRAck3 OT_31 [SEP] []) = false := by decide
theorem test_wf_frameRAck3_sm_sep : Instr.wellFormed (.frameRAck3 OT_31 [] [SEP]) = false := by decide
theorem test_wf_frameRNack_ec_sep : Instr.wellFormed (.frameRNack OT_31 [SEP] []) = false := by decide
theorem test_wf_frameRNack_sm_sep : Instr.wellFormed (.frameRNack OT_31 [] [SEP]) = false := by decide
theorem test_legal_equal_delimiters : ¬ Params.Legal { Params.default with etx := 0x02 } := by decide
theorem test_legal_stx_is_sep : ¬ Params.Legal { Params.default with stx := SEP } := by decide
theorem test_legal_etx_is_sep : ¬ Params.Legal { Params.default with etx := SEP } := by decide
theorem test_legal_stx_is_digit : ¬ Params.Legal { Params.default with stx := 0x39 } := by decide
theorem test_legal_etx_is_marker : ¬ Params.Legal { Params.default with etx := 0x4E } := by decide
theorem test_legal_trn_range : ¬ Params.Legal { Params.default with trnMin := 100 } := by decide
theorem test_legal_trn_two_digits : ¬ Params.Legal { Params.default with trnMax := 100 } := by decide
theorem test_legal_ref_range : ¬ Params.Legal { Params.default with refMin := 256 } := by decide

/-! ### Words written out from R80 and R69 -/

theorem test_word_b2h : decodeTableWord 8 0b00010000 = some (.b2h 0) := by decide
theorem test_word_cp2h : decodeTableWord 8 0b00010001 = some (.cp2h 0) := by decide
theorem test_word_seq2h : decodeTableWord 8 0b00010010 = some (.seq2h []) := by decide
theorem test_word_h2b : decodeTableWord 8 0b00010011 = some (.h2b []) := by decide
theorem test_word_h2bits : decodeTableWord 8 0b00010100 = some (.h2bits []) := by decide
theorem test_word_chunk : decodeTableWord 8 0b00010101 = some (.chunk [] 0) := by decide
theorem test_word_padr : decodeTableWord 8 0b00010110 = some (.padr [] 0) := by decide
theorem test_word_revenc : decodeTableWord 8 0b00100000 = some (.revenc []) := by decide
theorem test_word_revdec : decodeTableWord 8 0b00100001 = some (.revdec []) := by decide
theorem test_word_adv : decodeTableWord 8 0b00110000 = some (.adv 0 0 0) := by decide
theorem test_word_advs : decodeTableWord 8 0b00110001 = some (.advs [] 0 0) := by decide
theorem test_word_rtrn : decodeTableWord 8 0b00110010 = some (.rtrn 0) := by decide
theorem test_word_sndenc : decodeTableWord 8 0b01000000 = some (.sndenc []) := by decide
theorem test_word_snddec : decodeTableWord 8 0b01000001 = some (.snddec [] []) := by decide
theorem test_word_socnt : decodeTableWord 8 0b01000010 = some (.socnt []) := by decide
theorem test_word_join : decodeTableWord 8 0b01010000 = some (.join []) := by decide
theorem test_word_csum : decodeTableWord 8 0b01010001 = some (.csum []) := by decide
theorem test_word_compose : decodeTableWord 8 0b01010010 = some (.compose [] [] [] []) := by decide
theorem test_word_wrap : decodeTableWord 8 0b01010011 = some (.wrap []) := by decide
theorem test_word_create : decodeTableWord 8 0b01010100 = some (.create 0 [] []) := by decide
theorem test_word_render : decodeTableWord 8 0b01010101 = some (.render Operands.blank.body) := by decide
theorem test_word_parse : decodeTableWord 8 0b01100000 = some (.parse []) := by decide
theorem test_word_split : decodeTableWord 8 0b01100001 = some (.split []) := by decide
theorem test_word_decode : decodeTableWord 8 0b01100010 = some (.decode []) := by decide
theorem test_word_pbody : decodeTableWord 8 0b01110000 = some (.pbody Header.blank []) := by decide
theorem test_word_frameO31 : decodeTableWord 32 0x4F333161 = some (.frameO31 [ascii "a", []]) := by decide
theorem test_word_frameO60 : decodeTableWord 32 0x4F363061 =
    some (.frameO60 (ascii "a" :: List.replicate 11 [])) := by decide
theorem test_word_frameO51 : decodeTableWord 32 0x4F353161 =
    some (.frameO51 (ascii "a" :: List.replicate 32 [])) := by decide
theorem test_word_frameO52 : decodeTableWord 32 0x4F35322F = some (.frameO52 (List.replicate 33 [])) := by decide
theorem test_word_frameO53 : decodeTableWord 32 0x4F353361 =
    some (.frameO53 (ascii "a" :: List.replicate 32 [])) := by decide
theorem test_word_frameRAck2 : decodeTableWord 32 0x52393941 = some (.frameRAck2 (ascii "99") []) := by decide
theorem test_word_frameRNack : decodeTableWord 32 0x5235314E = some (.frameRNack (ascii "51") [] []) := by decide
/-- No bit of a word says how many fields a frame has: an Ack with `mvp` is told by its body text (log 15). -/
theorem test_frame_frameRAck3 : decode (.frame (schemaHeader ROLE_R OT_51) (ascii "A//x")) =
    .ok (.frameRAck3 OT_51 [] (ascii "x")) := by decide
theorem test_word_reserved_opsel : decodeTableWord 8 0x43 = none ∧ decodeTableWord 8 0xFF = none := by decide
theorem test_word_reserved_frame : decodeTableWord 32 0x4F333061 = none ∧
    decodeTableWord 32 0x52353161 = none ∧ decodeTableWord 32 0x58333161 = none := by decide

/-! ### One step each, from spec/95_test_vectors.md -/

theorem test_b2h : respond (.b2h 171) = some (.ok (.str (ascii "AB"))) := by decide
theorem test_cp2h : respond (.cp2h 0x20AC) = some (.ok (.str (ascii "20AC"))) := by decide
theorem test_cp2h_wide : respond (.cp2h 65536) = some (.raised .undefinedInput) := by decide
theorem test_seq2h : respond (.seq2h [1, 2, 255]) = some (.ok (.str (ascii "0102FF"))) := by decide
theorem test_seq2h_wide : respond (.seq2h [65, 0x20AC]) = some (.ok (.str (ascii "004120AC"))) := by decide
theorem test_h2b : respond (.h2b (ascii "6F79D8")) = some (.ok (.str [0x6F, 0x79, 0xD8])) := by decide
theorem test_h2b_lowercase : respond (.h2b (ascii "6f")) = some (.raised .undefinedInput) := by decide
theorem test_h2bits : respond (.h2bits (ascii "1C3")) = some (.ok (.bits
    [false, false, false, true, true, true, false, false, false, false, true, true])) := by decide
theorem test_chunk : respond (.chunk (ascii "ABCDEFG") 3) =
    some (.ok (.strList [ascii "ABC", ascii "DEF", ascii "G"])) := by decide
theorem test_chunk_empty : respond (.chunk [] 4) = some (.ok (.strList [[]])) := by decide
theorem test_padr : respond (.padr (ascii "ABCDE") 4) = some (.ok (.str (ascii "ABCDE" ++ [0, 0, 0]))) := by decide
theorem test_padr_full : respond (.padr (ascii "ABCD") 4) = some (.ok (.str (ascii "ABCD"))) := by decide
/-- S4. -/
theorem test_revenc : respond (.revenc (ascii "481234567")) = some (.ok (.str (ascii "84214365F7"))) := by decide
/-- S5. -/
theorem test_revdec : respond (.revdec (ascii "84214365F7")) = some (.ok (.str (ascii "481234567"))) := by decide
theorem test_revdec_filler_second : respond (.revdec (ascii "8F")) = some (.raised .undefinedInput) := by decide
theorem test_adv : respond (.adv 98 0 99) = some (.ok (.nat 99)) := by decide
theorem test_adv_wraps : respond (.adv 99 0 99) = some (.ok (.nat 0)) := by decide
theorem test_advs : respond (.advs (ascii "007") 0 99) = some (.ok (.nat 8)) := by decide
theorem test_advs_no_number : respond (.advs (ascii "7 ") 0 99) = some (.raised .undefinedInput) := by decide
theorem test_rtrn : respond (.rtrn 7) = some (.ok (.str (ascii "07"))) := by decide
/-- 2.4: the last pair `09` counts 1. -/
theorem test_sndenc : respond (.sndenc (ascii "INFO")) =
    some (.ok (.sender (ascii "5039") (ascii "0749A7F109"))) := by decide
theorem test_sndenc_digits : respond (.sndenc (ascii "0")) = some (.ok (.sender [] (ascii "0"))) := by decide
/-- 2.4: the prefix is dropped unread. -/
theorem test_snddec : respond (.snddec (ascii "5039") (ascii "FFC834")) = some (.ok (.str (ascii "Hi"))) := by decide
theorem test_snddec_other_type : respond (.snddec (ascii "1139") (ascii "04C834")) =
    some (.ok (.str (ascii "04C834"))) := by decide
theorem test_socnt : respond (.socnt (ascii "0A10")) = some (.ok (.nat 3)) := by decide
theorem test_join : respond (.join [ascii "ABC", ascii "DEF", ascii "GHI"]) =
    some (.ok (.str (ascii "ABC/DEF/GHI"))) := by decide
theorem test_csum : respond (.csum (ascii "ABC/DEF/GHI")) = some (.ok (.str (ascii "CB"))) := by decide
theorem test_compose : respond (.compose (ascii "05") (ascii "O") (ascii "31") []) =
    some (.ok (.str (ascii "05/00017/O/31//FB"))) := by decide
theorem test_compose_response :
    respond (.compose (ascii "09") (ascii "R") (ascii "51") [ascii "N", ascii "02", ascii "Syntax error"]) =
      some (.ok (.str (ascii "09/00034/R/51/N/02/Syntax error/E2"))) := by decide
theorem test_wrap : respond (.wrap (ascii "A")) = some (.ok (.str [0x02, 0x41, 0x03])) := by decide
/-- P1. -/
theorem test_create : respond (.create 0 (ascii "31") [ascii "0234765439845", ascii "0139"]) =
    some (.ok (.created 1 (ascii "01/00035/O/31/0234765439845/0139/9F"))) := by decide
/-- P4. -/
theorem test_create_wraps : respond (.create 99 (ascii "31") [ascii "0234765439845", ascii "0139"]) =
    some (.ok (.created 0 (ascii "00/00035/O/31/0234765439845/0139/9E"))) := by decide
theorem test_render : respond (.render (.ack { mvp := some [], sm := ascii "x" })) =
    some (.ok (.strList [ascii "A", [], ascii "x"])) := by decide
theorem test_parse : respond (.parse good) =
    some (.ok (.parsed goodHeader (ascii "0234765439845/0139") (ascii "9F"))) := by decide
theorem test_parse_trailing : respond (.parse (good ++ [0x03])) = some (.raised .messageTooLong) := by decide
/-- S7. -/
theorem test_split : respond (.split (ascii "///")) = some (.ok (.strList [[], [], [], []])) := by decide
/-- P1. -/
theorem test_decode : respond (.decode good) = some (.ok (.decoded goodHeader
    (.addressInfoRequest { adc := ascii "0234765439845", pid := ascii "0139" }) (ascii "9F"))) := by decide
theorem test_decode_header : respond (.decode (framed "01-00035/O/31/0234765439845/0139/9F")) =
    some (.raised .invalidHeader) := by decide
theorem test_pbody : respond (.pbody (schemaHeader ROLE_R (ascii "99")) (ascii "N/02/Syntax error")) =
    some (.ok (.body (.nack { ec := ascii "02", sm := ascii "Syntax error" }))) := by decide
theorem test_pbody_lowercase_marker : respond (.pbody (schemaHeader ROLE_R OT_51) (ascii "a/1")) =
    some (.raised .unsupportedOperation) := by decide

/-! The frame schemas, each in one step from what the host presents (2.7). -/

theorem test_frameO31 : stepWith Params.default (.frame (schemaHeader ROLE_O OT_31) (ascii "a/b/c")) =
    some (.raised .invalidCommandSyntax) := by decide
theorem test_frameO60 : stepWith Params.default
    (.frame (schemaHeader ROLE_O OT_60) (ascii "07656/2/1/1/736563726574//0100/////")) =
    some (.ok (.body (.sessionRequest ⟨ascii "07656", ascii "2", ascii "1", ascii "1", ascii "736563726574", [],
      ascii "0100", [], [], [], [], []⟩))) := by decide
theorem test_frameO51 : stepWith Params.default
    (.frame (schemaHeader ROLE_O OT_51) (ascii "/10ZZ///////////////////////////5039////")) =
    some (.raised .invalidCommandSyntax) := by decide
theorem test_frameO52 : stepWith Params.default (.frame (schemaHeader ROLE_O OT_52) (List.replicate 32 SEP)) =
    some (.ok (.body (.submitShortMessage ⟨[], [], [], [], [], [], [], [], [], [], [], [], [], [], [], [], [], [],
      [], [], [], [], [], [], [], [], [], [], [], [], [], [], []⟩))) := by decide
/-- spec/90_conflicts.md C5: 31 fields are not enough. -/
theorem test_frameO53 : stepWith Params.default (.frame (schemaHeader ROLE_O OT_53) (List.replicate 30 SEP)) =
    some (.raised .invalidCommandSyntax) := by decide
theorem test_frameRAck2 : stepWith Params.default
    (.frame (schemaHeader ROLE_R OT_31) (ascii "A/0234765439845:0139")) =
    some (.ok (.body (.ack { mvp := none, sm := ascii "0234765439845:0139" }))) := by decide
theorem test_frameRAck3 : stepWith Params.default
    (.frame (schemaHeader ROLE_R OT_51) (ascii "A//012345678:090196103258")) =
    some (.ok (.body (.ack { mvp := some [], sm := ascii "012345678:090196103258" }))) := by decide
theorem test_frameRNack : stepWith Params.default (.frame (schemaHeader ROLE_R (ascii "99")) (ascii "N/02/x")) =
    some (.ok (.body (.nack { ec := ascii "02", sm := ascii "x" }))) := by decide
/-- P4 step 9. -/
theorem test_step_reserved : stepWith Params.default (.command 0xFF Operands.blank) =
    some (.raised .illegalOp) := by decide
/-- 2.6: G followed by an ETX under LAST_BYTE. -/
theorem test_step_last_byte : stepWith lastByte (.command 0x60 { Operands.blank with buf := good ++ [0x03] }) =
    some (.raised .invalidMessage) := by decide
/-- R41, U30: a long body is refused though no schema takes the frame, and a reserved OPSEL is decided first (R235). -/
theorem test_step_small_buffer_frame :
    stepWith smallBuffer (.frame (schemaHeader ROLE_O (ascii "30")) (ascii "abc")) =
      some (.raised .undefinedInput) ∧
    stepWith smallBuffer (.command 0xFF { Operands.blank with buf := good }) = some (.raised .illegalOp) := by decide
/-- The marker of an Ack is no operand: it fits any buffer. -/
theorem test_step_no_buffer : stepWith { Params.default with maxBuf := some 0 } (.command 0x55 Operands.blank) =
    some (.ok (.strList [ascii "A", []])) := by decide
theorem test_step_small_buffer : stepWith smallBuffer (.command 0x61 { Operands.blank with sStr := ascii "abc" }) =
    some (.raised .undefinedInput) := by decide
/-- The machine runs the words of the opcode table from the state after reset. -/
theorem test_withFetchWord : step (State.reset.withFetchWord 8 0x42) =
    .next { State.reset with returned := some (.ok (.nat 0)) } := rfl

/-! ### Witnesses: for each obligation with hypotheses, a state and operands that meet them -/

/-- CHUNK of two bytes, presented where MAX_BUF is two. -/
def presented : State :=
  { State.reset with
    params := smallBuffer
    issued := some (.command 0x15 { Operands.blank with bStr := ascii "AB", maxSize := 1 }) }

/-- The same with three bytes. -/
def oversized : State :=
  { State.reset with
    params := smallBuffer
    issued := some (.command 0x15 { Operands.blank with bStr := ascii "ABC", maxSize := 1 }) }

/-- The state after reset under LAST_BYTE. -/
def lastByteState : State := { State.reset with params := lastByte }

theorem witness_StepRunsTheDecodedInstruction :
    presented.issued = some (.command 0x15 { Operands.blank with bStr := ascii "AB", maxSize := 1 }) ∧
    fitsCapacity presented.params.maxBuf
      (.command 0x15 { Operands.blank with bStr := ascii "AB", maxSize := 1 }) = true ∧
    decode (.command 0x15 { Operands.blank with bStr := ascii "AB", maxSize := 1 }) =
      .ok (.chunk (ascii "AB") 1) := ⟨rfl, by decide, by decide⟩

theorem witness_NothingPresentedChangesNothing : State.reset.issued = none := rfl

theorem witness_EveryTransactionIsAnswered :
    (State.reset.present (.command 0x17 Operands.blank)).issued = some (.command 0x17 Operands.blank) := rfl

theorem witness_TransactionsLeaveNoTrace :
    presented.params = (presented.answered (.raised .illegalOp)).params ∧
    presented.issued = (presented.answered (.raised .illegalOp)).issued ∧
    presented.issued = some (.command 0x15 { Operands.blank with bStr := ascii "AB", maxSize := 1 }) ∧
    presented ≠ presented.answered (.raised .illegalOp) := ⟨rfl, rfl, rfl, by decide⟩

theorem witness_ReservedOpselAnswersIllegalOp : ∀ opsel ∈ [(0x00 : Byte), 0x0F, 0x17, 0x33, 0x56, 0x71, 0xFF],
    opsel.toNat ∉ [0x10, 0x11, 0x12, 0x13, 0x14, 0x15, 0x16, 0x20, 0x21, 0x30, 0x31, 0x32, 0x40, 0x41, 0x42,
      0x50, 0x51, 0x52, 0x53, 0x54, 0x55, 0x60, 0x61, 0x62, 0x70] ∧
    (State.reset.present (.command opsel Operands.blank)).issued = some (.command opsel Operands.blank) := by decide

/-- One byte too many, in both formats. -/
theorem witness_OversizedOperandIsRefused :
    oversized.issued = some (.command 0x15 { Operands.blank with bStr := ascii "ABC", maxSize := 1 }) ∧
    oversized.params.maxBuf = some 2 ∧
    (∃ k ∈ issueLengths (.command 0x15 { Operands.blank with bStr := ascii "ABC", maxSize := 1 }), 2 < k) ∧
    ∃ k ∈ issueLengths (.frame (schemaHeader ROLE_O (ascii "30")) (ascii "abc")), 2 < k :=
  ⟨rfl, rfl, ⟨3, by decide, by decide⟩, 3, by decide, by decide⟩

theorem witness_EveryStepKeepsTheInvariant :
    (State.reset.present (.command 0x60 { Operands.blank with buf := good })).Inv ∧
    step (State.reset.present (.command 0x60 { Operands.blank with buf := good })) =
      .next { State.reset with
        returned := some (.ok (.parsed goodHeader (ascii "0234765439845/0139") (ascii "9F"))) } :=
  ⟨⟨by decide, fun _ h => by cases h⟩, rfl⟩

theorem witness_DecodeOfEncodeIsTheInstruction : ∀ i ∈ [Instr.chunk (ascii "AB") 0, .frameO31 [[]],
    .frameRAck2 OT_31 [], .frameRAck3 OT_31 [] [], .frameRNack OT_51 (ascii "02") []],
    i.wellFormed = true := by decide

theorem witness_OnlyNamedErrorsAreRaised : exec (.h2b (ascii "6F7")) State.reset =
    .next { State.reset with returned := some (.raised .undefinedInput) } := rfl

theorem witness_CodePointToHexGivesFourDigits : 0xFFFF ≤ 0xFFFF ∧ 0xFFFF < 0x10000 := by decide

theorem witness_SequenceToHexChoosesOneWidth :
    (∀ c ∈ [0, 255], c ≤ 255) ∧ ((∃ c ∈ [0, 256], 255 < c) ∧ ∀ c ∈ [0, 256], c ≤ 0xFFFF) ∧
    ∃ c ∈ [0, 0x10000], 0xFFFF < c := by decide

theorem witness_HexDecodeAcceptsEvenUppercaseHex :
    ((ascii "0F").length % 2 = 0 ∧ ∀ c ∈ ascii "0F", c ∈ HEXDIG) ∧ (ascii "0").length % 2 = 1 ∧
    ∃ c ∈ ascii "0G", c ∉ HEXDIG := by decide

theorem witness_HexToBitsGivesFourBitsADigit :
    (∀ c ∈ ascii "F", c ∈ HEXDIG) ∧ 0 < (ascii "F").length ∧ ∃ c ∈ ascii "a", c ∉ HEXDIG := by decide

theorem witness_ChunksCoverTheBuffer : 0 < 1 ∧ 0 = 0 := by decide

theorem witness_PaddingReachesTheSmallestMultiple : 0 < 1 ∧ 0 = 0 := by decide

theorem witness_ReverseEncodeSwapsEveryPair :
    2 * 0 + 1 < (ascii "12").length ∧ (ascii "7").length % 2 = 1 := by decide

theorem witness_ReverseDecodeInvertsOnItsDomain :
    ((ascii "F7").length % 2 = 0 ∧ ∀ i, (ascii "F7")[i]? = some FILLER → i + 2 = (ascii "F7").length) ∧
    FILLER ∈ ascii "F7" ∧
    ((ascii "21").length % 2 = 0 ∧ ∀ i, (ascii "21")[i]? = some FILLER → i + 2 = (ascii "21").length) ∧
    FILLER ∉ ascii "21" ∧ (ascii "842").length % 2 = 1 ∧
    ∃ i, (ascii "8F")[i]? = some FILLER ∧ i + 2 ≠ (ascii "8F").length := by
  refine ⟨⟨by decide, ?_⟩, by decide, ⟨by decide, ?_⟩, by decide, by decide, 1, by decide, by decide⟩
  · intro i h
    match i, h with
    | 0, _ => rfl
    | 1, h => exact absurd h (by decide)
    | n + 2, h => cases h
  · intro i h
    match i, h with
    | 0, h => exact absurd h (by decide)
    | 1, h => exact absurd h (by decide)
    | n + 2, h => cases h

theorem witness_ReversalRoundTripsWithoutFiller : FILLER ∉ ascii "481234567" := by decide

theorem witness_AdvanceWrapsAtTheMaximum : 99 ≤ 99 ∧ 98 < 99 := by decide

theorem witness_AdvanceReadsADecimalString :
    (ascii "007" ≠ [] ∧ ∀ c ∈ ascii "007", isDigit c = true) ∧ ∃ c ∈ ascii "7 ", isDigit c = false := by decide

theorem witness_RenderTrnWritesTwoDigits : 99 ≤ 99 ∧ 99 < 100 := by decide

theorem witness_CounterStaysInRangeAndCycles : 3 ≤ 3 ∧ 0 ≤ 99 ∧ 0 ≤ 0 ∧ 99 ≤ 99 ∧ 99 ≤ 99 - 0 := by decide

theorem witness_SemiOctetCountScansPairs : (ascii "00").length % 2 = 0 ∧ (ascii "0").length % 2 = 1 := by decide

/-- 146 characters that pack to 128 bytes, one of them below 0x10. -/
def longSender : Str := List.replicate 145 0x7A ++ [0x0A]

/-- 146 characters pack to 128 bytes: a count of 256 does not fit, and one byte below 0x10 makes it 255. -/
theorem witness_SenderIsNumericOrPackedWithItsCount :
    (∀ c ∈ ascii "0", isDigit c = true) ∧
    (∀ w ∈ [(longSender, 255), (List.replicate 146 (0x7A : Byte), 256)],
      (∃ c ∈ w.1, isDigit c = false) ∧
      w.2 + ((pack7 State.reset.params (toWire State.reset.params w.1)).countP fun c => decide (c.toNat < 16)) =
        2 * (pack7 State.reset.params (toWire State.reset.params w.1)).length) ∧
    255 ≤ 255 ∧ 255 < 256 := by decide +kernel

theorem witness_SenderDecodeDropsThePrefix :
    ascii "1139" ≠ [0x35, 0x30, 0x33, 0x39] ∧ ascii "5039" = [0x35, 0x30, 0x33, 0x39] ∧
    ascii "00" = 0x30 :: 0x30 :: hexText [] ∧
    ∀ (c d : Byte) (b : Str), ascii "1" ≠ c :: d :: hexText b :=
  ⟨by decide, by decide, by decide, fun _ _ _ h => by injection h with _ h; cases h⟩

/-- A text and one of the greatest count. -/
theorem witness_SenderRoundTripsWhereCollaboratorsDo :
    (∀ c ∈ ascii "42", isDigit c = true) ∧
    (∀ w ∈ [(ascii "Hi", 4), (longSender, 255)], (∃ c ∈ w.1, isDigit c = false) ∧
      w.2 + ((pack7 State.reset.params (toWire State.reset.params w.1)).countP fun c => decide (c.toNat < 16)) =
        2 * (pack7 State.reset.params (toWire State.reset.params w.1)).length ∧ w.2 ≤ 255 ∧
      unpack7 State.reset.params (pack7 State.reset.params (toWire State.reset.params w.1)) =
        toWire State.reset.params w.1 ∧
      toLocal State.reset.params (toWire State.reset.params w.1) = w.1) := by decide +kernel

theorem witness_DefaultUnpackerInvertsThePacker :
    (∀ c ∈ ascii "abcdefgh", c.toNat < 128) ∧ (ascii "abcdefgh").length % 8 ≠ 7 ∧
    (∀ c ∈ ascii "ALPHA12", c.toNat < 128) ∧ (ascii "ALPHA12").length % 8 = 7 := by decide

theorem witness_ChecksumIsTheByteSum : (ascii "AB").Perm (ascii "BA") ∧ (0x00 : Byte) ≠ 0xFF := by decide

/-- A field of n bytes. -/
def longField (n : Nat) : Str := List.replicate n 0x41

theorem longField_length (n : Nat) : (joinFields [longField n]).length = n := List.length_replicate

/-- A field of 99982 bytes makes the longest message, one of 99983 does not fit. -/
theorem witness_ComposedMessageIsLaidOut :
    99999 = OT_31.length + ROLE_O.length + OT_31.length +
      (joinFields [longField 99982]).length + 12 ∧ 99999 ≤ 99999 ∧
    100000 = OT_31.length + ROLE_O.length + OT_31.length +
      (joinFields [longField 99983]).length + 12 ∧ 99999 < 100000 := by
  rw [longField_length, longField_length]
  decide

theorem witness_CreateCarriesTheAdvancedNumber :
    State.reset.params.Legal ∧ (0 = if State.reset.params.trnMax ≤ 99 then State.reset.params.trnMin else 99 + 1) ∧
    OT_31.length + (joinFields [longField 99982]).length + 15 ≤ 99999 ∧
    99999 < OT_31.length + (joinFields [longField 99983]).length + 15 :=
  ⟨by decide, by decide, by rw [longField_length]; decide, by rw [longField_length]; decide⟩

theorem witness_PseudoOperationsAbbreviate :
    exec (.compose (ascii "05") (ascii "O") (ascii "31") []) State.reset =
      .next { State.reset with returned := some (.ok (.str (ascii "05/00017/O/31//FB"))) } ∧
    exec (.wrap (ascii "05/00017/O/31//FB")) State.reset =
      .next { State.reset with returned := some (.ok (.str (framed "05/00017/O/31//FB"))) } := ⟨rfl, rfl⟩

theorem witness_FrameWithoutItsStartIsInvalid :
    (good.take 13).length < 14 ∧ (good.drop 1)[0]? ≠ some State.reset.params.stx := by decide

theorem witness_TrailingBytesAreTooLong :
    (14 ≤ (good.take 14).length ∧ (good.take 14)[0]? = some State.reset.params.stx ∧
      State.reset.params.etxCheck = .firstEtx ∧ State.reset.params.etx ∉ good.take 14) ∧
    (14 ≤ (good ++ good).length ∧ (good ++ good)[0]? = some State.reset.params.stx ∧
      State.reset.params.etx ∈ (good ++ good).dropLast) ∧
    (14 ≤ (good.take 14).length ∧ (good.take 14)[0]? = some lastByteState.params.stx ∧
      lastByteState.params.etxCheck = .lastByte ∧ (good.take 14).getLast? ≠ some lastByteState.params.etx) := by decide

theorem witness_HeaderRegionHasFourFields :
    (∀ b ∈ [framed "01-00035/O/31/0234765439845/0139/9F", framed "0/1/0035/O/31/0234765439845/0139/9F"],
      14 ≤ b.length ∧ b[0]? = some State.reset.params.stx ∧
      (b.getLast? = some State.reset.params.etx ∧ State.reset.params.etx ∉ b.dropLast) ∧
      ((b.drop 1).take 13).count SEP ≠ 3) ∧
    14 ≤ good.length ∧ good[0]? = some State.reset.params.stx ∧ endsFrame State.reset.params good ∧
    ((good.drop 1).take 13).count SEP = 3 ∧
    exec (.parse good) State.reset = .next { State.reset with
      returned := some (.ok (.parsed goodHeader (ascii "0234765439845/0139") (ascii "9F"))) } :=
  ⟨by decide, by decide, by decide, ⟨by decide, by decide⟩, by decide, rfl⟩

/-- The shortest frame, and one whose body holds an ETX, which only LAST_BYTE accepts. -/
theorem witness_ParseAcceptsExactlyTheCarvedFrames :
    exec (.parse (framed "05/00017/O/31//FB")) State.reset = .next { State.reset with
      returned := some (.ok (.parsed { trn := ascii "05", len := ascii "00017", role := ascii "O", ot := ascii "31" }
        [] (ascii "FB"))) } ∧
    exec (.parse (framed "01/00026/O/31/12" ++ ascii "4/0139/8D" ++ [0x03])) lastByteState = .next { lastByteState with
      returned := some (.ok (.parsed { trn := ascii "01", len := ascii "00026", role := ascii "O", ot := ascii "31" }
        (ascii "12" ++ 0x03 :: ascii "4/0139") (ascii "8D"))) } := ⟨rfl, rfl⟩

theorem witness_LengthThatDoesNotCarveIsInvalid :
    14 ≤ (framed "05/00016/O/31//FB").length ∧ (framed "05/00016/O/31//FB")[0]? = some State.reset.params.stx ∧
    endsFrame State.reset.params (framed "05/00016/O/31//FB") ∧
    (((framed "05/00016/O/31//FB").drop 1).take 13).count SEP = 3 ∧
    ¬ ∃ (h : Header) (bodyText sum : Str), exec (.parse (framed "05/00016/O/31//FB")) State.reset =
      .next { State.reset with returned := some (.ok (.parsed h bodyText sum)) } := by
  refine ⟨by decide, by decide, ⟨by decide, by decide⟩, by decide, ?_⟩
  rintro ⟨h, bodyText, sum, e⟩
  rw [exec_of_error (.parse (framed "05/00016/O/31//FB")) State.reset .invalidMessage rfl] at e
  cases e

/-- Under FIRST_ETX with no ETX at the checksum, under LAST_BYTE with one. -/
theorem witness_ChecksumIsNotVerified :
    (ascii "FB").length = 2 ∧ (ascii "00").length = 2 ∧
    (State.reset.params.etxCheck = .firstEtx → State.reset.params.etx ∉ ascii "00") ∧
    exec (.parse ((0x02 :: ascii "05/00017/O/31//") ++ ascii "FB" ++ [State.reset.params.etx])) State.reset =
      .next { State.reset with returned := some (.ok (.parsed
        { trn := ascii "05", len := ascii "00017", role := ascii "O", ot := ascii "31" } [] (ascii "FB"))) } ∧
    [lastByteState.params.etx, lastByteState.params.etx].length = 2 ∧
    (lastByteState.params.etxCheck = .firstEtx →
      lastByteState.params.etx ∉ [lastByteState.params.etx, lastByteState.params.etx]) ∧
    exec (.parse ((0x02 :: ascii "05/00017/O/31//") ++ ascii "FB" ++ [lastByteState.params.etx])) lastByteState =
      .next { lastByteState with returned := some (.ok (.parsed
        { trn := ascii "05", len := ascii "00017", role := ascii "O", ot := ascii "31" } [] (ascii "FB"))) } :=
  ⟨by decide, by decide, by decide, rfl, by decide, by decide, rfl⟩

/-- An empty body, and one of the greatest length. -/
theorem witness_ComposedFrameAlwaysParses :
    State.reset.params.Legal ∧ lastByteState.params.Legal ∧
    (ascii "05").length = 2 ∧ (ascii "O").length = 1 ∧ (ascii "31").length = 2 ∧
    SEP ∉ ascii "05" ∧ SEP ∉ ascii "O" ∧ SEP ∉ ascii "31" ∧
    State.reset.params.etx ∉ ascii "05" ∧ State.reset.params.etx ∉ ascii "O" ∧ State.reset.params.etx ∉ ascii "31" ∧
    (∀ f ∈ ([] : List Str), State.reset.params.etx ∉ f) ∧ (joinFields []).length ≤ 99982 ∧
    (∀ f ∈ [longField 99982], State.reset.params.etx ∉ f) ∧
    (joinFields [longField 99982]).length ≤ 99982 := by
  refine ⟨by decide, by decide, by decide, by decide, by decide, by decide, by decide, by decide, by decide, by decide,
    by decide, by decide, by decide, ?_, Nat.le_of_eq (longField_length 99982)⟩
  intro f hf h
  rw [List.mem_singleton.1 hf] at h
  exact absurd (List.eq_of_mem_replicate h) (by decide)

/-- P3 step 7 as a frame for the error, G for the result. -/
theorem witness_DecodeIsParseThenPbody :
    exec (.parse (good ++ [0x58])) State.reset =
      .next { State.reset with returned := some (.raised .messageTooLong) } ∧
    parseFrame State.reset.params good = .ok (goodHeader, ascii "0234765439845/0139", ascii "9F") ∧
    parseBody State.reset.params goodHeader (ascii "0234765439845/0139") =
      .ok (.addressInfoRequest { adc := ascii "0234765439845", pid := ascii "0139" }) ∧
    parseFrame State.reset.params (framed "09/00021/R/51/N/02/00") =
      .ok ({ trn := ascii "09", len := ascii "00021", role := ascii "R", ot := ascii "51" }, ascii "N/02",
        ascii "00") ∧
    exec (.pbody { trn := ascii "09", len := ascii "00021", role := ascii "R", ot := ascii "51" } (ascii "N/02"))
      State.reset = .next { State.reset with returned := some (.raised .unsupportedOperation) } :=
  ⟨rfl, rfl, rfl, rfl, rfl⟩

theorem witness_AddressQueryHasTwoFields :
    (schemaHeader ROLE_O OT_31).role = [0x4F] ∧ (schemaHeader ROLE_O OT_31).ot = [0x33, 0x31] ∧
    SEP ∉ ([] : Str) ∧ (ascii "a").count SEP + 1 ≠ 2 ∧ (ascii "a/b/c").count SEP + 1 ≠ 2 ∧
    ([] : List Str).length ≠ 2 ∧ [ascii "a", [], []].length ≠ 2 := by decide

/-- The session request of P5. -/
def session : SessionRequest :=
  ⟨ascii "07656", ascii "2", ascii "1", ascii "1", ascii "736563726574", [], ascii "0100", [], [], [], [], []⟩

theorem witness_SessionRequestTranscodesPasswords :
    (schemaHeader ROLE_O OT_60).role = [0x4F] ∧ (schemaHeader ROLE_O OT_60).ot = [0x36, 0x30] ∧
    (∀ f ∈ renderBody (.sessionRequest session), SEP ∉ f) ∧
    (List.replicate 10 SEP).count SEP + 1 ≠ 12 ∧ (List.replicate 12 SEP).count SEP + 1 ≠ 12 ∧
    (List.replicate 11 ([] : Str)).length ≠ 12 := by decide

/-- A short message of which only the sender and its type are given. -/
def message (otoa oadc : Str) : SubmitShortMessage :=
  { adc := [], oadc := oadc, ac := [], nrq := [], nadc := [], nt := [], npid := [], lrq := [], lrad := [], lpid := [],
    dd := [], ddt := [], vp := [], rpid := [], scts := [], dst := [], rsn := [], dscts := [], mt := [], nb := [],
    msg := [], mms := [], pr := [], dcs := [], mcls := [], rpi := [], cpg := [], rply := [], otoa := otoa,
    hplmn := [], xser := [], res4 := [], res5 := [] }

theorem witness_SubmitDecodesItsSender :
    (∀ ot ∈ [OT_51, OT_52, OT_53], (schemaHeader ROLE_O ot).role = [0x4F] ∧
      ((schemaHeader ROLE_O ot).ot = [0x35, 0x31] ∨ (schemaHeader ROLE_O ot).ot = [0x35, 0x32] ∨
        (schemaHeader ROLE_O ot).ot = [0x35, 0x33])) ∧
    decodeSender State.reset.params (message (ascii "5039") (ascii "04C834")).otoa
      (message (ascii "5039") (ascii "04C834")).oadc = .ok (ascii "Hi") ∧
    (∀ f ∈ renderBody (.submitShortMessage (message (ascii "5039") (ascii "04C834"))), SEP ∉ f) ∧
    decodeSender State.reset.params (message (ascii "5039") (ascii "1")).otoa
      (message (ascii "5039") (ascii "1")).oadc = .error .undefinedInput ∧
    (∀ f ∈ renderBody (.submitShortMessage (message (ascii "5039") (ascii "1"))), SEP ∉ f) ∧
    (List.replicate 31 SEP).count SEP + 1 ≠ 33 ∧ (List.replicate 33 SEP).count SEP + 1 ≠ 33 ∧
    (List.replicate 32 ([] : Str)).length ≠ 33 := by decide

theorem witness_ResponsesAreToldByCountAndMarker :
    (schemaHeader ROLE_R (ascii "99")).role = [0x52] ∧ SEP ∉ ([] : Str) ∧ SEP ∉ ascii "Syntax error" := by decide

theorem witness_EverythingElseIsUnsupported :
    ((schemaHeader ROLE_O (ascii "30")).role = [0x4F] ∧ (schemaHeader ROLE_O (ascii "30")).ot ∉
      [[0x33, 0x31], [0x36, 0x30], [0x35, 0x31], [0x35, 0x32], [0x35, 0x33]]) ∧
    ((schemaHeader ROLE_R OT_51).role = [0x52] ∧ (∀ sm : Str, SEP ∉ sm → ascii "N/02" ≠ 0x41 :: SEP :: sm) ∧
      ∀ x sm : Str, SEP ∉ x → SEP ∉ sm →
        ascii "N/02" ≠ 0x41 :: SEP :: x ++ SEP :: sm ∧ ascii "N/02" ≠ 0x4E :: SEP :: x ++ SEP :: sm) ∧
    ((schemaHeader (ascii "o") OT_31).role ≠ [0x4F] ∧ (schemaHeader (ascii "o") OT_31).role ≠ [0x52]) ∧
    exec (.pbody (schemaHeader ROLE_O OT_31) (ascii "a")) State.reset =
      .next { State.reset with returned := some (.raised .invalidCommandSyntax) } := by
  refine ⟨by decide, ⟨by decide, ?_, ?_⟩, by decide, rfl⟩
  · intro sm _ h
    injection h with h _
    exact absurd h (by decide)
  · intro x sm _ _
    refine ⟨fun h => ?_, fun h => ?_⟩
    · injection h with h _
      exact absurd h (by decide)
    · have h1 := congrArg (List.count SEP) h
      simp only [List.count_cons, List.count_append, List.cons_append] at h1
      have h2 : (ascii "N/02").count SEP = 1 := by decide
      have h3 : SEP == SEP := by decide
      simp only [h2, h3, if_true] at h1
      omega

theorem witness_RenderedBodyParsesBack :
    bodyMatches (schemaHeader ROLE_O OT_60) (.sessionRequest session) ∧
    (∀ f ∈ renderBody (.sessionRequest session), SEP ∉ f) ∧
    (toLocal State.reset.params session.pwd = session.pwd ∧ toLocal State.reset.params session.npwd = session.npwd) ∧
    bodyMatches (schemaHeader ROLE_O OT_52) (.submitShortMessage (message [] (ascii "42"))) ∧
    (∀ f ∈ renderBody (.submitShortMessage (message [] (ascii "42"))), SEP ∉ f) ∧
    (message [] (ascii "42")).otoa ≠ [0x35, 0x30, 0x33, 0x39] := by
  refine ⟨⟨rfl, rfl⟩, by decide, by decide, ⟨rfl, .inr (.inl rfl)⟩, by decide, by decide⟩

/-- The session request of P5. -/
theorem witness_ComposedBodyDecodesBack :
    State.reset.params.Legal ∧
    bodyMatches { trn := ascii "02", len := [], role := ascii "O", ot := ascii "60" } (.sessionRequest session) ∧
    (ascii "02").length = 2 ∧ (ascii "60").length = 2 ∧ SEP ∉ ascii "02" ∧ SEP ∉ ascii "60" ∧
    State.reset.params.etx ∉ ascii "02" ∧ State.reset.params.etx ∉ ascii "60" ∧
    (∀ f ∈ renderBody (.sessionRequest session), SEP ∉ f ∧ State.reset.params.etx ∉ f) ∧
    (toLocal State.reset.params session.pwd = session.pwd ∧ toLocal State.reset.params session.npwd = session.npwd) ∧
    (joinFields (renderBody (.sessionRequest session))).length ≤ 99982 := by
  refine ⟨by decide, ⟨by decide, by decide⟩, by decide, by decide, by decide, by decide, by decide, by decide, by decide,
    by decide, by decide⟩

end Sys2Proof.Tests
end

