-- ==== Sys2Proof/Proofs/State.lean ====
section
/-! PROOFS. The family of spec/10_state.md: one step answers a presented transaction with a function of the transaction
and the parameters alone, and keeps nothing else (R20, R53). -/

namespace Sys2Proof.Machine

/-- What a presented transaction ends in, as a function of the parameters and the transaction: the refusal of an operand
longer than the buffer (R41, log 7), the error of decoding it (R82, R207), or the outcome of its instruction. -/
def transactionOutcome (p : Params) (w : Issue) : Except Error Results :=
  if fitsCapacity p.maxBuf w then (decode w).bind (outcomeOf p) else .error .undefinedInput

theorem transactionOutcome_of_oversized (p : Params) (w : Issue) (hf : fitsCapacity p.maxBuf w = false) :
    transactionOutcome p w = .error .undefinedInput := by
  simp [transactionOutcome, hf]

theorem transactionOutcome_of_undecodable (p : Params) (w : Issue) (e : Error) (hf : fitsCapacity p.maxBuf w = true)
    (hd : decode w = .error e) : transactionOutcome p w = .error e := by
  simp [transactionOutcome, hf, hd, Except.bind]

theorem transactionOutcome_of_decoded (p : Params) (w : Issue) (i : Instr) (hf : fitsCapacity p.maxBuf w = true)
    (hd : decode w = .ok i) : transactionOutcome p w = outcomeOf p i := by
  simp [transactionOutcome, hf, hd, Except.bind]

theorem step_of_fetch_rejected (s : State) (e : Error) (hf : fetch s = .rejected e) :
    step s = answer s.begun (.error e) := by
  simp only [step, hf]
  rfl

theorem step_of_fetch_run (s : State) (i : Instr) (hf : fetch s = .run i) :
    step s = answer s.begun (outcomeOf s.params i) := by
  simp only [step, hf]
  exact exec_eq_answer i s.begun

/-- A step with a transaction presented takes it up and answers with its outcome. -/
theorem step_eq_answer (s : State) (w : Issue) (hw : s.issued = some w) :
    step s = answer s.begun (transactionOutcome s.params w) := by
  obtain ⟨hi, -⟩ | ⟨v, hi, hf, hfetch⟩ | ⟨v, e, hi, hf, hd, hfetch⟩ | ⟨v, i, hi, hf, hd, hfetch⟩ := fetch_cases s
  · cases hw.symm.trans hi
  · cases hw.symm.trans hi
    rw [step_of_fetch_rejected s _ hfetch, transactionOutcome_of_oversized _ _ hf]
  · cases hw.symm.trans hi
    rw [step_of_fetch_rejected s e hfetch, transactionOutcome_of_undecodable _ _ e hf hd]
  · cases hw.symm.trans hi
    rw [step_of_fetch_run s i hfetch, transactionOutcome_of_decoded _ _ i hf hd]

/-- The state a step with a transaction presented leaves: the response is fixed by the transaction and the parameters. -/
theorem step_next_of_issued (s : State) (w : Issue) (hw : s.issued = some w) :
    step s = .next { s with issued := none, returned := some (responseOf (transactionOutcome s.params w)) } := by
  rw [step_eq_answer s w hw, answer_eq]
  rfl

/-- A step with a transaction presented sees of the state nothing but the transaction and the parameters: an earlier
response is not observable. -/
theorem step_congr (s t : State) (w : Issue) (hp : s.params = t.params) (hs : s.issued = some w)
    (ht : t.issued = some w) : step s = step t := by
  rw [step_eq_answer s w hs, step_eq_answer t w ht, State.begun_eq_of_params s t hp, hp]

/-- Settles O5: the response is `transactionOutcome` of the parameters and the transaction, and the parameters, the only
thing a later step sees of the state, are kept. -/
theorem transactionsLeaveNoTrace : Obligations.TransactionsLeaveNoTrace := by
  refine ⟨?sameResponse, ?noTrace, ?repeatable⟩
  case sameResponse =>
    intro s t w hp hs ht
    refine ⟨responseOf (transactionOutcome s.params w), step_next_of_issued s w hs, ?_⟩
    rw [hp]
    exact step_next_of_issued t w ht
  case noTrace =>
    intro s w w' hw
    exact ⟨_, step_next_of_issued s w hw, step_congr _ _ w' rfl rfl rfl⟩
  case repeatable =>
    intro s w hw
    exact ⟨_, _, step_next_of_issued s w hw, step_next_of_issued _ w rfl, rfl⟩

end Sys2Proof.Machine
end

