-- ==== Sys2Proof/Proofs/Parser.lean ====
section
/-! PROOFS. The family of spec/46_frame_parser.md, parser steps 1 and 3: a buffer without its start (R182) and the
field count of the header region (R184). -/

namespace Sys2Proof.Machine

/-! ### What PARSE answers, by what the pure parser does -/

theorem exec_parse_raised_iff (buf : Str) (s : State) (e : Error) :
    exec (.parse buf) s = .next { s with returned := some (.raised e) } ↔ parseFrame s.params buf = .error e := by
  constructor
  · intro h
    have ho := outcome_of_exec_error _ _ _ h
    cases hp : parseFrame s.params buf with
    | error e' => simpa [outcomeOf, hp, Except.map] using ho
    | ok r => simp [outcomeOf, hp, Except.map] at ho
  · intro h
    exact exec_of_error _ _ _ (by simp [outcomeOf, h, Except.map])

theorem exec_parse_parsed_iff (buf : Str) (s : State) (h : Header) (bodyText sum : Str) :
    exec (.parse buf) s = .next { s with returned := some (.ok (.parsed h bodyText sum)) } ↔
      parseFrame s.params buf = .ok (h, bodyText, sum) := by
  constructor
  · intro hx
    have ho := outcome_of_exec_ok _ _ _ hx
    cases hp : parseFrame s.params buf with
    | error e => simp [outcomeOf, hp, Except.map] at ho
    | ok r =>
      obtain ⟨h', bodyText', sum'⟩ := r
      simpa [outcomeOf, hp, Except.map] using ho
  · intro hp
    exact exec_of_ok _ _ _ (by simp [outcomeOf, hp, Except.map])

/-! ### Parser step 1 -/

/-- Step 1 decides before anything else is looked at (R182). -/
theorem parseFrame_of_not_started (p : Params) (buf : Str) (hs : ¬ startsFrame p buf = true) :
    parseFrame p buf = .error .invalidMessage := by
  obtain ⟨-, hp⟩ | ⟨hs', -⟩ | ⟨hs', -⟩ := parseFrame_cases p buf
  · exact hp
  · exact absurd hs' hs
  · exact absurd hs' hs

/-- Settles O46: such a buffer fails parser step 1. -/
theorem frameWithoutItsStartIsInvalid : Obligations.FrameWithoutItsStartIsInvalid := by
  intro buf s hbad
  rw [exec_parse_raised_iff]
  refine parseFrame_of_not_started _ _ fun hs => ?_
  obtain ⟨hlen, hstx⟩ := (startsFrame_iff s.params buf).1 hs
  obtain hshort | hfirst := hbad
  · omega
  · exact hfirst hstx

/-! ### Parser step 3 -/

/-- The header region as the statements write it: the 13 bytes after the start delimiter. -/
theorem headerRegion_eq (buf : Str) : headerRegion buf = (buf.drop 1).take 13 := rfl

/-- Past steps 1 and 2 the separators of the header region decide (R184): without exactly three the error is
invalid_header; with three it is not, and the header PARSE returns is the region split. -/
theorem parseFrame_of_ended (p : Params) (buf : Str) (hs : startsFrame p buf = true) (he : endError p buf = none) :
    ((headerRegion buf).count SEP ≠ 3 ∧ parseFrame p buf = .error .invalidHeader) ∨
    ∃ h : Header, splitFields (headerRegion buf) = headerFields h ∧
      (parseFrame p buf = .error .invalidMessage ∨
        ∃ bodyText sum, parseFrame p buf = .ok (h, bodyText, sum)) := by
  obtain ⟨hs', -⟩ | ⟨-, e, he', -⟩ | ⟨-, -, hfields⟩ := parseFrame_cases p buf
  · simp [hs] at hs'
  · simp [he] at he'
  · obtain ⟨hne, hp⟩ | ⟨trn, len, role, ot, hsplit, hcarve⟩ := hfields
    · rw [splitFields_length] at hne
      exact .inl ⟨fun hc => hne (by rw [hc]), hp⟩
    · refine .inr ⟨{ trn := trn, len := len, role := role, ot := ot }, hsplit, ?_⟩
      obtain ⟨-, hp⟩ | ⟨k, -, hp⟩ := hcarve
      · exact .inl hp
      · exact .inr ⟨_, _, hp⟩

/-- A region that splits into the fields of a header has three separators. -/
theorem count_sep_of_splitFields (t : Str) (h : Header) (hsplit : splitFields t = headerFields h) :
    t.count SEP = 3 := by
  have hlen : t.count SEP + 1 = 4 := by rw [← splitFields_length, hsplit]; rfl
  omega

/-- Settles O48: past steps 1 and 2, PARSE raises invalid_header exactly where the region has not three separators, and
the header it returns holds the fields SPLIT gives. -/
theorem headerRegionHasFourFields : Obligations.HeaderRegionHasFourFields := by
  intro buf s hlen hstx hend
  have hs := (startsFrame_iff s.params buf).2 ⟨hlen, hstx⟩
  have he := (endError_eq_none_iff s.params buf).2 hend
  simp only [← headerRegion_eq, ne_eq, exec_parse_raised_iff, exec_parse_parsed_iff]
  obtain ⟨hne, hp⟩ | ⟨h, hsplit, hp⟩ := parseFrame_of_ended s.params buf hs he
  case inl => exact ⟨fun _ => hp, fun h3 => absurd h3 hne⟩
  case inr =>
    refine ⟨fun hne => absurd (count_sep_of_splitFields _ h hsplit) hne, fun _ => ?_⟩
    obtain hp | ⟨bodyText, sum, hp⟩ := hp
    case inl => simp [hp]
    case inr =>
      refine ⟨by simp [hp], fun h' bodyText' sum' hp' => ?_⟩
      obtain rfl : h = h' := by
        rw [hp] at hp'
        injection hp' with hr
        exact congrArg Prod.fst hr
      exact exec_of_ok _ _ _ (by rw [outcomeOf, hsplit]; rfl)

end Sys2Proof.Machine
end

