-- ==== Sys2Proof/Proofs/BodyDispatch.lean ====
section
/-! PROOFS. The family of spec/47_body_dispatch.md: which schema answers a body text (R201 to R206) and what is left over
(R207, R208). -/

namespace Sys2Proof.Machine

/-! ### The fields of a body text -/

/-- SPLIT gives a list of fields exactly for the text JOIN makes of it, and only separator-free fields. -/
theorem splitFields_eq_iff (t : Str) (l : List Str) (hne : l ≠ []) :
    splitFields t = l ↔ t = joinFields l ∧ ∀ f ∈ l, SEP ∉ f := by
  constructor
  · rintro rfl
    exact ⟨(joinFields_splitFields t).symm, splitFields_noSep t⟩
  · rintro ⟨rfl, hsep⟩
    exact splitFields_joinFields l hne hsep

theorem splitFields_eq_pair_iff (t a b : Str) :
    splitFields t = [a, b] ↔ t = a ++ SEP :: b ∧ SEP ∉ a ∧ SEP ∉ b := by
  simp [splitFields_eq_iff t [a, b], joinFields]

theorem splitFields_eq_triple_iff (t a b c : Str) :
    splitFields t = [a, b, c] ↔ t = a ++ SEP :: (b ++ SEP :: c) ∧ SEP ∉ a ∧ SEP ∉ b ∧ SEP ∉ c := by
  simp [splitFields_eq_iff t [a, b, c], joinFields]

theorem sep_notMem_MARK_A : SEP ∉ MARK_A := by decide

theorem sep_notMem_MARK_N : SEP ∉ MARK_N := by decide

/-! ### What PBODY and the schema of operation 31 answer, by what the pure dispatcher does -/

theorem exec_pbody_of_body (h : Header) (bodyText : Str) (s : State) (b : Body)
    (hp : parseBody s.params h bodyText = .ok b) :
    exec (.pbody h bodyText) s = .next { s with returned := some (.ok (.body b)) } :=
  exec_of_ok _ _ _ (by simp [outcomeOf, hp, Except.map])

theorem exec_pbody_raised_iff (h : Header) (bodyText : Str) (s : State) (e : Error) :
    exec (.pbody h bodyText) s = .next { s with returned := some (.raised e) } ↔
      parseBody s.params h bodyText = .error e := by
  constructor
  · intro hx
    have ho := outcome_of_exec_error _ _ _ hx
    cases hp : parseBody s.params h bodyText with
    | error e' => simpa [outcomeOf, hp, Except.map] using ho
    | ok b => simp [outcomeOf, hp, Except.map] at ho
  · intro hp
    exact exec_of_error _ _ _ (by simp [outcomeOf, hp, Except.map])

theorem exec_frameO31_of_error (fields : List Str) (s : State) (e : Error) (hp : parseO31 fields = .error e) :
    exec (.frameO31 fields) s = .next { s with returned := some (.raised e) } :=
  exec_of_error _ _ _ (by simp [outcomeOf, hp, Except.map])

/-! ### The schema a header selects -/

theorem parseBody_of_addressQuery (p : Params) (h : Header) (bodyText : Str) (hr : h.role = ROLE_O)
    (hot : h.ot = OT_31) : parseBody p h bodyText = parseO31 (splitFields bodyText) := by
  simp [parseBody, hr, hot]

/-- Under role R no operation type is looked at. -/
theorem parseBody_of_response (p : Params) (h : Header) (bodyText : Str) (hr : h.role = ROLE_R) :
    parseBody p h bodyText = parseResponse (splitFields bodyText) := by
  have hO : ROLE_R ≠ ROLE_O := by decide
  simp [parseBody, hr, hO]

theorem parseBody_of_unknownOperation (p : Params) (h : Header) (bodyText : Str) (hr : h.role = ROLE_O)
    (hot : h.ot ∉ [OT_31, OT_60, OT_51, OT_52, OT_53]) :
    parseBody p h bodyText = .error .unsupportedOperation := by
  simp only [List.mem_cons, List.not_mem_nil, or_false, not_or] at hot
  simp [parseBody, hr, hot]

theorem parseBody_of_unknownRole (p : Params) (h : Header) (bodyText : Str) (hO : h.role ≠ ROLE_O)
    (hR : h.role ≠ ROLE_R) : parseBody p h bodyText = .error .unsupportedOperation := by
  simp [parseBody, hO, hR]

/-! ### Operation 31 -/

theorem parseO31_of_two (adc pid : Str) :
    parseO31 [adc, pid] = .ok (.addressInfoRequest { adc := adc, pid := pid }) := rfl

theorem parseO31_of_length_ne (f : List Str) (hf : f.length ≠ 2) : parseO31 f = .error .invalidCommandSyntax := by
  obtain ⟨adc, pid, rfl, -⟩ | ⟨-, hp⟩ := parseO31_cases f
  · exact absurd rfl hf
  · exact hp

/-- Settles O54: PBODY hands the fields of the text to the schema, which looks at their number alone. -/
theorem addressQueryHasTwoFields : Obligations.AddressQueryHasTwoFields := by
  intro h s hr hot
  refine ⟨?twoInText, ?otherCountInText, ?twoFields, ?otherCount⟩
  case twoInText =>
    intro adc pid hadc hpid
    apply exec_pbody_of_body
    rw [parseBody_of_addressQuery _ h _ hr hot, (splitFields_eq_pair_iff _ adc pid).2 ⟨rfl, hadc, hpid⟩]
    exact parseO31_of_two adc pid
  case otherCountInText =>
    intro bodyText hcount
    rw [exec_pbody_raised_iff, parseBody_of_addressQuery _ h _ hr hot]
    exact parseO31_of_length_ne _ (by rwa [splitFields_length])
  case twoFields =>
    intro adc pid
    exact exec_of_ok _ _ _ rfl
  case otherCount =>
    intro fields hlen
    exact exec_frameO31_of_error _ _ _ (parseO31_of_length_ne fields hlen)

/-! ### The responses -/

theorem parseResponse_ack2 (sm : Str) : parseResponse [MARK_A, sm] = .ok (.ack { mvp := none, sm := sm }) := rfl

theorem parseResponse_ack3 (mvp sm : Str) :
    parseResponse [MARK_A, mvp, sm] = .ok (.ack { mvp := some mvp, sm := sm }) := rfl

theorem parseResponse_nack (ec sm : Str) : parseResponse [MARK_N, ec, sm] = .ok (.nack { ec := ec, sm := sm }) := rfl

/-- A body text under role R completes with what the response schemas make of its fields. -/
theorem exec_pbody_response (h : Header) (bodyText : Str) (s : State) (f : List Str) (b : Body) (hr : h.role = ROLE_R)
    (hsplit : splitFields bodyText = f) (hf : parseResponse f = .ok b) :
    exec (.pbody h bodyText) s = .next { s with returned := some (.ok (.body b)) } := by
  apply exec_pbody_of_body
  rw [parseBody_of_response _ h _ hr, hsplit, hf]

/-- Settles O57: the marker is the first field of the text, and the schemas are told apart by it and the count. -/
theorem responsesAreToldByCountAndMarker : Obligations.ResponsesAreToldByCountAndMarker := by
  intro h s hr
  refine ⟨?ack2, ?ack3, ?nack, ?frameAck2, ?frameAck3, ?frameNack⟩
  case ack2 =>
    intro sm hsm
    exact exec_pbody_response h _ s _ _ hr
      ((splitFields_eq_pair_iff _ MARK_A sm).2 ⟨rfl, sep_notMem_MARK_A, hsm⟩) (parseResponse_ack2 sm)
  case ack3 =>
    intro mvp sm hmvp hsm
    exact exec_pbody_response h _ s _ _ hr
      ((splitFields_eq_triple_iff _ MARK_A mvp sm).2 ⟨rfl, sep_notMem_MARK_A, hmvp, hsm⟩) (parseResponse_ack3 mvp sm)
  case nack =>
    intro ec sm hec hsm
    exact exec_pbody_response h _ s _ _ hr
      ((splitFields_eq_triple_iff _ MARK_N ec sm).2 ⟨rfl, sep_notMem_MARK_N, hec, hsm⟩) (parseResponse_nack ec sm)
  case frameAck2 => exact fun ot sm => exec_of_ok _ _ _ rfl
  case frameAck3 => exact fun ot mvp sm => exec_of_ok _ _ _ rfl
  case frameNack => exact fun ot ec sm => exec_of_ok _ _ _ rfl

/-! ### What is left over -/

/-- The response schemas raise no other error: a wrong count under role R is no syntax error (R208). -/
theorem parseResponse_error (f : List Str) (e : Error) (hf : parseResponse f = .error e) :
    e = .unsupportedOperation := by
  obtain ⟨_, -, hp⟩ | ⟨_, _, -, hp⟩ | ⟨_, _, -, hp⟩ | ⟨hp, -⟩ := parseResponse_cases f
  · cases hf.symm.trans hp
  · cases hf.symm.trans hp
  · cases hf.symm.trans hp
  · cases hf.symm.trans hp
    rfl

/-- A text that is none of the three response forms splits into none of the three field lists (R207). -/
theorem parseResponse_splitFields_of_unmarked (t : Str)
    (h2 : ∀ sm : Str, SEP ∉ sm → t ≠ MARK_A ++ SEP :: sm)
    (h3 : ∀ x sm : Str, SEP ∉ x → SEP ∉ sm →
      t ≠ MARK_A ++ SEP :: (x ++ SEP :: sm) ∧ t ≠ MARK_N ++ SEP :: (x ++ SEP :: sm)) :
    parseResponse (splitFields t) = .error .unsupportedOperation := by
  obtain ⟨sm, hf, -⟩ | ⟨mvp, sm, hf, -⟩ | ⟨ec, sm, hf, -⟩ | ⟨hp, -⟩ := parseResponse_cases (splitFields t)
  · obtain ⟨ht, -, hsm⟩ := (splitFields_eq_pair_iff _ _ _).1 hf
    exact absurd ht (h2 sm hsm)
  · obtain ⟨ht, -, hmvp, hsm⟩ := (splitFields_eq_triple_iff _ _ _ _).1 hf
    exact absurd ht (h3 mvp sm hmvp hsm).1
  · obtain ⟨ht, -, hec, hsm⟩ := (splitFields_eq_triple_iff _ _ _ _).1 hf
    exact absurd ht (h3 ec sm hec hsm).2
  · exact hp

/-- Only a known operation of role O can give invalid_command_syntax (R208). -/
theorem knownOperation_of_invalidCommandSyntax (p : Params) (h : Header) (bodyText : Str)
    (hp : parseBody p h bodyText = .error .invalidCommandSyntax) :
    h.role = ROLE_O ∧ h.ot ∈ [OT_31, OT_60, OT_51, OT_52, OT_53] := by
  obtain ⟨hO, hot, -⟩ | ⟨hO, hot, -⟩ | ⟨hO, hot, -⟩ | ⟨-, hresp⟩ | ⟨-, hun⟩ := parseBody_cases p h bodyText
  · exact ⟨hO, by simp [hot]⟩
  · exact ⟨hO, by simp [hot]⟩
  · exact ⟨hO, by obtain hot | hot | hot := hot <;> simp [hot]⟩
  · cases parseResponse_error _ _ (hresp.symm.trans hp)
  · cases hun.symm.trans hp

/-- Settles O58: the role decides first, then the operation type or the form of the response. -/
theorem everythingElseIsUnsupported : Obligations.EverythingElseIsUnsupported := by
  intro h bodyText s
  simp only [exec_pbody_raised_iff]
  refine ⟨?unknownOperation, ?unknownResponse, ?unknownRole, ?onlyKnownOperation⟩
  case unknownOperation => exact parseBody_of_unknownOperation _ h bodyText
  case unknownResponse =>
    intro hr h2 h3
    rw [parseBody_of_response _ h _ hr]
    exact parseResponse_splitFields_of_unmarked bodyText h2 h3
  case unknownRole => exact parseBody_of_unknownRole _ h bodyText
  case onlyKnownOperation => exact knownOperation_of_invalidCommandSyntax _ h bodyText

end Sys2Proof.Machine
end

section
/-! PROOFS. The statements about the machine, the codec and the frames that the families of spec/10_state.md,
spec/46_frame_parser.md and spec/47_body_dispatch.md above leave over, from the single step to the whole way out and
back. Each is brought to a statement about the pure outcome of an instruction (`exec_ok_iff`, `exec_raised_iff`) and
settled there. -/

namespace Sys2Proof.Machine

/-! ### What an instruction answers, by its outcome -/

/-- An instruction completes with the results that are its outcome, and only with those. -/
theorem exec_ok_iff (i : Instr) (s : State) (r : Results) :
    exec i s = .next { s with returned := some (.ok r) } ↔ outcomeOf s.params i = .ok r :=
  ⟨outcome_of_exec_ok i s r, exec_of_ok i s r⟩

/-- An instruction raises the error that is its outcome, and no other. -/
theorem exec_raised_iff (i : Instr) (s : State) (e : Error) :
    exec i s = .next { s with returned := some (.raised e) } ↔ outcomeOf s.params i = .error e :=
  ⟨outcome_of_exec_error i s e, exec_of_error i s e⟩

/-- Mapping a computation into results loses nothing when the results are made by an injective constructor. -/
theorem map_eq_ok_of_injective {α : Type} {f : α → Results} (hf : f.Injective) (x : Except Error α) (a : α) :
    x.map f = .ok (f a) ↔ x = .ok a := by
  rw [map_eq_ok]
  constructor
  · rintro ⟨b, hx, hb⟩
    rw [hx, hf hb]
  · exact fun hx => ⟨a, hx, rfl⟩

theorem map_str_eq_ok (x : Except Error Str) (a : Str) : x.map Results.str = .ok (.str a) ↔ x = .ok a :=
  map_eq_ok_of_injective (fun _ _ => Results.str.inj) x a

theorem map_nat_eq_ok (x : Except Error Nat) (a : Nat) : x.map Results.nat = .ok (.nat a) ↔ x = .ok a :=
  map_eq_ok_of_injective (fun _ _ => Results.nat.inj) x a

theorem map_strList_eq_ok (x : Except Error (List Str)) (a : List Str) :
    x.map Results.strList = .ok (.strList a) ↔ x = .ok a :=
  map_eq_ok_of_injective (fun _ _ => Results.strList.inj) x a

theorem map_bits_eq_ok (x : Except Error Bits) (a : Bits) : x.map Results.bits = .ok (.bits a) ↔ x = .ok a :=
  map_eq_ok_of_injective (fun _ _ => Results.bits.inj) x a

theorem map_body_eq_ok (x : Except Error Body) (a : Body) : x.map Results.body = .ok (.body a) ↔ x = .ok a :=
  map_eq_ok_of_injective (fun _ _ => Results.body.inj) x a

/-! ### One step -/

theorem fetch_of_nothing (s : State) (hw : s.issued = none) : fetch s = .idle := by
  simp [fetch, hw]

theorem fetch_of_decoded (s : State) (w : Issue) (i : Instr) (hw : s.issued = some w)
    (hf : fitsCapacity s.params.maxBuf w = true) (hd : decode w = .ok i) : fetch s = .run i := by
  simp [fetch, hw, hf, hd]

/-- Settles O1: such a transaction is fetched as its instruction. -/
theorem stepRunsTheDecodedInstruction : Obligations.StepRunsTheDecodedInstruction := by
  intro s w i hw hf hd
  simp only [step, fetch_of_decoded s w i hw hf hd]
  rfl

/-- Settles O2: the block waits. -/
theorem nothingPresentedChangesNothing : Obligations.NothingPresentedChangesNothing := by
  intro s hw
  simp only [step, fetch_of_nothing s hw]

/-- Settles O3: the response is the outcome of the transaction. -/
theorem everyTransactionIsAnswered : Obligations.EveryTransactionIsAnswered :=
  fun s w hw => ⟨responseOf (transactionOutcome s.params w), step_next_of_issued s w hw⟩

/-- Every step ends in a next state, whether a transaction is presented or not. -/
theorem step_is_next (s : State) : ∃ t, step s = .next t := by
  cases hw : s.issued with
  | none => exact ⟨s, nothingPresentedChangesNothing s hw⟩
  | some w => exact ⟨_, step_next_of_issued s w hw⟩

/-- Settles O4, by induction on the number of steps. -/
theorem runFromAnyStateNeverStops : Obligations.RunFromAnyStateNeverStops := by
  intro k
  induction k with
  | zero => exact fun _ => trivial
  | succ k ih =>
    intro s
    obtain ⟨t, ht⟩ := step_is_next s
    exact ⟨t, ht, ih t⟩

/-- A code outside the table of R80 selects nothing. -/
theorem decodeCommand_of_reserved (opsel : Byte) (operands : Operands)
    (h : opsel.toNat ∉ [0x10, 0x11, 0x12, 0x13, 0x14, 0x15, 0x16, 0x20, 0x21, 0x30, 0x31, 0x32, 0x40, 0x41, 0x42,
      0x50, 0x51, 0x52, 0x53, 0x54, 0x55, 0x60, 0x61, 0x62, 0x70]) :
    decodeCommand opsel operands = .error .illegalOp := by
  unfold decodeCommand
  split
  case h_26 => rfl
  all_goals simp_all

/-- A reserved OPSEL is decided before the capacity and the operands are looked at (R235). -/
theorem transactionOutcome_of_reserved (p : Params) (opsel : Byte) (operands : Operands) (e : Error)
    (h : decodeCommand opsel operands = .error e) : transactionOutcome p (.command opsel operands) = .error e :=
  transactionOutcome_of_undecodable p _ e (fitsCapacity_of_reserved _ opsel operands e h) h

/-- Settles O6: decoding rejects the code, and a rejected code has no operand to measure. -/
theorem reservedOpselAnswersIllegalOp : Obligations.ReservedOpselAnswersIllegalOp := by
  intro s opsel operands hop hw
  rw [step_next_of_issued s _ hw,
    transactionOutcome_of_reserved _ _ _ _ (decodeCommand_of_reserved opsel operands hop)]
  rfl

/-- Settles O7: the capacity is looked at before the transaction is decoded. -/
theorem oversizedOperandIsRefused : Obligations.OversizedOperandIsRefused := by
  intro s w n hw hn hlong
  have hf := (fitsCapacity_eq_false_iff s.params.maxBuf w).2 ⟨n, hn, hlong⟩
  rw [step_next_of_issued s w hw, transactionOutcome_of_oversized _ _ hf]
  rfl

/-- Settles O9: after a reset nothing is presented, and the next step sees only the parameters. -/
theorem resetDropsTheTransaction : Obligations.ResetDropsTheTransaction := fun s w =>
  ⟨rfl, rfl, rfl, nothingPresentedChangesNothing s.applyReset rfl, step_congr _ _ w rfl rfl rfl⟩

/-- Settles O10: the fields of the state after reset. -/
theorem resetStateHoldsTheDefaults : Obligations.ResetStateHoldsTheDefaults :=
  ⟨rfl, rfl, rfl, rfl, rfl, rfl, rfl, rfl, rfl, rfl, rfl, rfl⟩

theorem default_legal : Params.default.Legal := by decide

/-- Settles O11: no response stands after reset. -/
theorem invariantHoldsAfterReset : Obligations.InvariantHoldsAfterReset :=
  ⟨default_legal, fun _ h => by cases h⟩

/-! ### What the host presents, and the Status numbers -/

/-- A body text of separator-free fields splits into those fields. -/
theorem splitFields_joinFields_of_ok (fields : List Str) (h : bodyFieldsOk fields = true) :
    splitFields (joinFields fields) = fields :=
  let ⟨hne, hsep⟩ := (bodyFieldsOk_iff fields).1 h
  splitFields_joinFields fields hne hsep

/-- A frame of role O decodes to the schema that its operation type selects, with the fields of the body text. -/
theorem decode_request (ot : Str) (schema : List Str → Instr) (fields : List Str)
    (hsel : ∀ t, decodeSchema (schemaHeader ROLE_O ot) t = .ok (schema (splitFields t)))
    (h : bodyFieldsOk fields = true) :
    decode (.frame (schemaHeader ROLE_O ot) (joinFields fields)) = .ok (schema fields) := by
  rw [decode, hsel, splitFields_joinFields_of_ok fields h]

theorem decodeSchema_ack2 (h : Header) (t sm : Str) (hr : h.role = ROLE_R) (hs : splitFields t = [MARK_A, sm]) :
    decodeSchema h t = .ok (.frameRAck2 h.ot sm) := by
  have hO : ROLE_R ≠ ROLE_O := by decide
  simp [decodeSchema, hr, hO, hs]

theorem decodeSchema_ack3 (h : Header) (t mvp sm : Str) (hr : h.role = ROLE_R)
    (hs : splitFields t = [MARK_A, mvp, sm]) : decodeSchema h t = .ok (.frameRAck3 h.ot mvp sm) := by
  have hO : ROLE_R ≠ ROLE_O := by decide
  simp [decodeSchema, hr, hO, hs]

theorem decodeSchema_nack (h : Header) (t ec sm : Str) (hr : h.role = ROLE_R) (hs : splitFields t = [MARK_N, ec, sm]) :
    decodeSchema h t = .ok (.frameRNack h.ot ec sm) := by
  have hO : ROLE_R ≠ ROLE_O := by decide
  have hN : MARK_N ≠ MARK_A := by decide
  simp [decodeSchema, hr, hO, hN, hs]

/-- Settles O13: an OPSEL selects its own operation and finds its operands; the body text of a frame splits into the
fields it was joined from. -/
theorem decodeOfEncodeIsTheInstruction : Obligations.DecodeOfEncodeIsTheInstruction := by
  intro i hi
  cases i
  case frameO31 fields => exact decode_request OT_31 .frameO31 fields (fun _ => rfl) hi
  case frameO60 fields => exact decode_request OT_60 .frameO60 fields (fun _ => rfl) hi
  case frameO51 fields => exact decode_request OT_51 .frameO51 fields (fun _ => rfl) hi
  case frameO52 fields => exact decode_request OT_52 .frameO52 fields (fun _ => rfl) hi
  case frameO53 fields => exact decode_request OT_53 .frameO53 fields (fun _ => rfl) hi
  case frameRAck2 ot sm =>
    have hsm := (noSep_iff sm).1 hi
    exact decodeSchema_ack2 (schemaHeader ROLE_R ot) _ sm rfl
      ((splitFields_eq_pair_iff _ _ _).2 ⟨rfl, sep_notMem_MARK_A, hsm⟩)
  case frameRAck3 ot mvp sm =>
    simp only [Instr.wellFormed, Bool.and_eq_true, noSep_iff] at hi
    obtain ⟨hmvp, hsm⟩ := hi
    exact decodeSchema_ack3 (schemaHeader ROLE_R ot) _ mvp sm rfl
      ((splitFields_eq_triple_iff _ _ _ _).2 ⟨rfl, sep_notMem_MARK_A, hmvp, hsm⟩)
  case frameRNack ot ec sm =>
    simp only [Instr.wellFormed, Bool.and_eq_true, noSep_iff] at hi
    obtain ⟨hec, hsm⟩ := hi
    exact decodeSchema_nack (schemaHeader ROLE_R ot) _ ec sm rfl
      ((splitFields_eq_triple_iff _ _ _ _).2 ⟨rfl, sep_notMem_MARK_N, hec, hsm⟩)
  all_goals rfl

/-- Settles O14: the operations of the 25 codes, and seven words written out. -/
theorem writtenOutWordsDecode : Obligations.WrittenOutWordsDecode := by
  refine ⟨fun o => ?codes, ?words⟩
  case codes => and_intros <;> rfl
  case words => decide

theorem statusCode_eq_zero_iff (r : Response) : statusCode r = 0 ↔ ∃ x, r = .ok x := by
  cases r with
  | ok x => simp [statusCode]
  | raised e => cases e <;> simp [statusCode, errorCode]

/-- Settles O16: the numbers are those of the definitions, and 0 is the number of no error. -/
theorem statusNumbersAreTheTable : Obligations.StatusNumbersAreTheTable :=
  ⟨rfl, rfl, rfl, rfl, rfl, rfl, rfl, fun _ => ⟨rfl, rfl⟩, fun _ => ⟨rfl, rfl⟩, statusCode_eq_zero_iff⟩

/-! ### Hex text of numbers -/

theorem hexDigit_eq (n : BitVec 4) : hexDigit n = HEXDIG.getD n.toNat 0 := rfl

/-- Four bits of a number are one hex digit of it. -/
theorem hexDigit_extract (c k : Nat) (h : c < 2 ^ 16) :
    hexDigit ((BitVec.ofNat 16 c).extractLsb' k 4) = HEXDIG.getD (c / 2 ^ k % 16) 0 := by
  rw [hexDigit_eq, BitVec.extractLsb'_toNat, BitVec.toNat_ofNat, Nat.mod_eq_of_lt h, Nat.shiftRight_eq_div_pow]

/-- The four hex digits of a number below 65536 (R101). -/
def fourHexDigits (c : Nat) : Str :=
  [HEXDIG.getD (c / 4096) 0, HEXDIG.getD (c / 256 % 16) 0, HEXDIG.getD (c / 16 % 16) 0, HEXDIG.getD (c % 16) 0]

theorem codePointToHex_of_le (c : Nat) (h : c ≤ 0xFFFF) : codePointToHex c = .ok (fourHexDigits c) := by
  have hc : c < 2 ^ 16 := by omega
  have hhigh : c / 4096 % 16 = c / 4096 := by omega
  simp [codePointToHex, fourHexDigits, Nat.not_lt.2 h, hexDigit_extract c _ hc, hhigh]

theorem codePointToHex_of_gt (c : Nat) (h : 0xFFFF < c) : codePointToHex c = .error .undefinedInput := by
  simp [codePointToHex, h]

/-- Settles O17: the nibbles of a byte are its quotient and remainder by 16. -/
theorem byteToHexGivesBothNibbles : Obligations.ByteToHexGivesBothNibbles := by
  refine ⟨fun _ => rfl, fun b s => ?_⟩
  have hhigh : b.toNat >>> 4 = b.toNat / 16 := Nat.shiftRight_eq_div_pow _ 4
  have hlow : b.toNat &&& 15 = b.toNat % 16 := Nat.and_two_pow_sub_one_eq_mod _ 4
  rw [exec_ok_iff, hhigh, hlow, outcomeOf, byteToHex_eq]

/-- Settles O18: each digit is four bits of the code point. -/
theorem codePointToHexGivesFourDigits : Obligations.CodePointToHexGivesFourDigits := by
  intro c s
  simp only [exec_ok_iff, exec_raised_iff, outcomeOf, map_str_eq_ok, map_eq_error]
  exact ⟨codePointToHex_of_le c, codePointToHex_of_gt c⟩

/-! ### SEQ2H -/

theorem wideHex_of_le (cps : CpSeq) (h : ∀ c ∈ cps, c ≤ 0xFFFF) : wideHex cps = .ok (cps.flatMap fourHexDigits) := by
  induction cps with
  | nil => rfl
  | cons c cs ih =>
    obtain ⟨hc, hcs⟩ := List.forall_mem_cons.1 h
    simp [wideHex, codePointToHex_of_le c hc, ih hcs]

theorem wideHex_of_gt (cps : CpSeq) (h : ∃ c ∈ cps, 0xFFFF < c) : wideHex cps = .error .undefinedInput := by
  induction cps with
  | nil => simp at h
  | cons c cs ih =>
    by_cases hc : 0xFFFF < c
    · simp [wideHex, codePointToHex_of_gt c hc]
    · have hcs : ∃ c ∈ cs, 0xFFFF < c := by simpa [hc] using h
      simp [wideHex, codePointToHex_of_le c (Nat.le_of_not_lt hc), ih hcs]

theorem sequenceToHex_of_narrow (cps : CpSeq) (h : ∀ c ∈ cps, c ≤ 255) :
    sequenceToHex cps = .ok (cps.flatMap fun c => byteToHex (BitVec.ofNat 8 c)) := by
  have hany : cps.any (255 < ·) = false := by simpa using h
  simp [sequenceToHex, hany]

theorem sequenceToHex_of_wide (cps : CpSeq) (h : ∃ c ∈ cps, 255 < c) : sequenceToHex cps = wideHex cps := by
  have hany : cps.any (255 < ·) = true := by simpa using h
  simp [sequenceToHex, hany]

theorem byteToHex_ofNat (c : Nat) (h : c ≤ 255) :
    byteToHex (BitVec.ofNat 8 c) = [HEXDIG.getD (c / 16) 0, HEXDIG.getD (c % 16) 0] := by
  rw [byteToHex_eq, BitVec.toNat_ofNat, Nat.mod_eq_of_lt (by omega)]

/-- Settles O19: the greatest element chooses the width, and the wide form has the domain of CP2H. -/
theorem sequenceToHexChoosesOneWidth : Obligations.SequenceToHexChoosesOneWidth := by
  intro cps s
  simp only [exec_ok_iff, exec_raised_iff, outcomeOf, map_str_eq_ok, map_eq_error]
  refine ⟨fun h => ?narrow, fun hwide hle => ?wide, fun hgt => ?undefined⟩
  case narrow =>
    rw [sequenceToHex_of_narrow cps h]
    exact congrArg _ (List.flatMap_congr fun c hc => byteToHex_ofNat c (h c hc))
  case wide => rw [sequenceToHex_of_wide cps hwide, wideHex_of_le cps hle]; rfl
  case undefined =>
    obtain ⟨c, hc, hgt⟩ := hgt
    rw [sequenceToHex_of_wide cps ⟨c, hc, by omega⟩, wideHex_of_gt cps ⟨c, hc, hgt⟩]

/-- SEQ2H writes a byte string as its hex text. -/
theorem sequenceToHex_bytes (b : Str) : sequenceToHex (b.map BitVec.toNat) = .ok (hexText b) := by
  have hle : ∀ c ∈ b.map BitVec.toNat, c ≤ 255 := by
    intro c hc
    obtain ⟨x, -, rfl⟩ := List.mem_map.1 hc
    exact Nat.le_of_lt_succ x.isLt
  rw [sequenceToHex_of_narrow _ hle, List.flatMap_map]
  simp [hexText]

/-! ### H2B and H2BITS -/

/-- Settles O20: SEQ2H writes the hex text, and H2B reads hex text back. -/
theorem hexTextDecodesBack : Obligations.HexTextDecodesBack := by
  intro b s
  refine ⟨hexText b, ?_, hexText_length b, ?_⟩
  · rw [exec_ok_iff, outcomeOf, sequenceToHex_bytes]; rfl
  · rw [exec_ok_iff, outcomeOf, hexToBytes_hexText]; rfl

theorem isHexDigit_iff (c : Byte) : isHexDigit c = true ↔ c ∈ HEXDIG := List.contains_iff_mem

/-- The hex texts are the strings of an even number of uppercase hex digits (R77). -/
theorem exists_hexText_iff (h : Str) : (∃ b, h = hexText b) ↔ h.length % 2 = 0 ∧ ∀ c ∈ h, c ∈ HEXDIG := by
  constructor
  · rintro ⟨b, rfl⟩
    have hlen := hexText_length b
    exact ⟨by omega, fun c hc => (isHexDigit_iff c).1 (hexText_isHex b c hc)⟩
  · rintro ⟨heven, hhex⟩
    have hall : h.all isHexDigit = true := List.all_eq_true.2 fun c hc => (isHexDigit_iff c).2 (hhex c hc)
    obtain ⟨ns, hns⟩ := Option.isSome_iff_exists.1 ((hexNibbles_isSome h).trans hall)
    have hmap := hexNibbles_map h ns hns
    obtain ⟨hodd, -⟩ | ⟨-, b, -, hb⟩ := nibblePairs_spec ns
    · rw [← hmap, List.length_map] at heven
      omega
    · exact ⟨b, by rw [hb, hmap]⟩

/-- Settles O21: H2B completes exactly on hex text. -/
theorem hexDecodeAcceptsEvenUppercaseHex : Obligations.HexDecodeAcceptsEvenUppercaseHex := by
  intro h s
  simp only [exec_ok_iff, exec_raised_iff, outcomeOf, map_str_eq_ok, map_eq_error]
  constructor
  · intro hhex
    obtain ⟨b, rfl⟩ := (exists_hexText_iff h).2 hhex
    exact ⟨b, hexToBytes_hexText b, (hexText_length b).symm, sequenceToHex_bytes b⟩
  · intro hbad
    obtain ⟨b, rfl, -⟩ | ⟨-, herr⟩ := hexToBytes_cases h
    · obtain ⟨heven, hhex⟩ := (exists_hexText_iff (hexText b)).1 ⟨b, rfl⟩
      obtain hodd | ⟨c, hc, hnot⟩ := hbad
      · omega
      · exact absurd (hhex c hc) hnot
    · exact herr

theorem hexNibbles_of_not_hex (h : Str) (hbad : ∃ c ∈ h, c ∉ HEXDIG) : hexNibbles h = none := by
  obtain ⟨c, hc, hnot⟩ := hbad
  rw [← Option.not_isSome_iff_eq_none, hexNibbles_isSome, List.all_eq_true]
  exact fun hall => hnot ((isHexDigit_iff c).1 (hall c hc))

/-- The value of a hex digit is its place in HEXDIG (R9). -/
theorem hexval_eq_idxOf : ∀ c ∈ HEXDIG, hexval c = some (BitVec.ofNat 4 (HEXDIG.idxOf c)) := by decide

theorem hexNibbles_of_hex (h : Str) (hhex : ∀ c ∈ h, c ∈ HEXDIG) :
    hexNibbles h = some (h.map fun c => BitVec.ofNat 4 (HEXDIG.idxOf c)) := by
  induction h with
  | nil => rfl
  | cons c cs ih =>
    obtain ⟨hc, hcs⟩ := List.forall_mem_cons.1 hhex
    simp [hexNibbles, hexval_eq_idxOf c hc, ih hcs]

theorem nibbleBits_length (n : BitVec 4) : (nibbleBits n).length = 4 := rfl

/-- Bit j of a digit's bits, the most significant first (D15). -/
theorem nibbleBits_getElem? (n j : Nat) (hj : j < 4) :
    (nibbleBits (BitVec.ofNat 4 n))[j]? = some (n.testBit (3 - j)) := by
  have hbit : (nibbleBits (BitVec.ofNat 4 n))[j]? = some ((BitVec.ofNat 4 n).getLsbD (3 - j)) := by
    interval_cases j <;> rfl
  have hlt : 3 - j < 4 := by omega
  rw [hbit, BitVec.getLsbD_ofNat, decide_eq_true hlt, Bool.true_and]

theorem flatMap_nibbleBits_length (ns : List (BitVec 4)) : (ns.flatMap nibbleBits).length = 4 * ns.length := by
  induction ns with
  | nil => rfl
  | cons n ns ih => rw [List.flatMap_cons, List.length_append, ih, nibbleBits_length, List.length_cons]; omega

/-- Place 4i + j of the stream is bit j of nibble i. -/
theorem flatMap_nibbleBits_getElem? (ns : List (BitVec 4)) (i j : Nat) (hi : i < ns.length) (hj : j < 4) :
    (ns.flatMap nibbleBits)[4 * i + j]? = (nibbleBits ns[i])[j]? := by
  induction ns generalizing i with
  | nil => simp at hi
  | cons n ns ih =>
    rw [List.flatMap_cons]
    cases i with
    | zero => rw [List.getElem?_append_left (by rw [nibbleBits_length]; omega), Nat.mul_zero, Nat.zero_add]; rfl
    | succ i =>
      rw [List.getElem?_append_right (by rw [nibbleBits_length]; omega), nibbleBits_length,
        show 4 * (i + 1) + j - 4 = 4 * i + j by omega, ih i (Nat.lt_of_succ_lt_succ hi), List.getElem_cons_succ]

/-- Settles O22: the stream is the bits of the digits' values, four for each. -/
theorem hexToBitsGivesFourBitsADigit : Obligations.HexToBitsGivesFourBitsADigit := by
  intro h s
  simp only [exec_ok_iff, exec_raised_iff, outcomeOf, map_bits_eq_ok, map_eq_error]
  constructor
  · intro hhex
    refine ⟨_, by rw [hexToBits, hexNibbles_of_hex h hhex], ?_, fun i j hi hj => ?_⟩
    · rw [flatMap_nibbleBits_length, List.length_map]
    · rw [flatMap_nibbleBits_getElem? _ i j (by simpa using hi) hj, List.getElem_map, nibbleBits_getElem? _ j hj,
        List.getD_eq_getElem _ _ hi]
  · intro hbad
    rw [hexToBits, hexNibbles_of_not_hex h hbad]

/-! ### CHUNK and PADR -/

theorem greedyCut_nil (size fuel : Nat) : greedyCut size fuel [] = [] := by
  cases fuel <;> rfl

theorem greedyCut_of_ne_nil (size fuel : Nat) (b : Str) (hb : b ≠ []) :
    greedyCut size (fuel + 1) b = b.take size :: greedyCut size fuel (b.drop size) := by
  simp [greedyCut, hb]

/-- How many slices of `size` bytes the greedy cut makes of `n` bytes: one fewer after a full slice is taken. -/
theorem sliceCount_succ (n size : Nat) (hs : 0 < size) (hn : 0 < n) :
    (n + size - 1) / size = (n - size + size - 1) / size + 1 := by
  obtain h | h := Nat.le_total n size
  · rw [Nat.sub_eq_zero_of_le h, Nat.zero_add, Nat.div_eq_of_lt (by omega : size - 1 < size)]
    rw [show n + size - 1 = n - 1 + size by omega, Nat.add_div_right _ hs, Nat.div_eq_of_lt (by omega)]
  · rw [show n + size - 1 = n - size + size - 1 + size by omega, Nat.add_div_right _ hs]

/-- What the greedy cut makes of a buffer, where the fuel lasts: slices in order that cover it, all but the last full,
as many as the length asks for (R105). -/
structure IsGreedyCut (size : Nat) (b : Str) (l : List Str) : Prop where
  covers : l.flatten = b
  bounded : ∀ c ∈ l, c.length ≤ size
  full : ∀ c ∈ l.dropLast, c.length = size
  count : l.length = (b.length + size - 1) / size

theorem isGreedyCut_nil (size : Nat) (hs : 0 < size) : IsGreedyCut size [] [] := by
  have hcount : (0 + size - 1) / size = 0 := Nat.div_eq_of_lt (by omega)
  exact ⟨rfl, by simp, by simp, hcount.symm⟩

theorem greedyCut_isGreedyCut (size fuel : Nat) (b : Str) (hs : 0 < size) (hf : b.length ≤ fuel) :
    IsGreedyCut size b (greedyCut size fuel b) := by
  induction fuel generalizing b with
  | zero =>
    obtain rfl := List.length_eq_zero_iff.1 (Nat.le_zero.1 hf)
    exact isGreedyCut_nil size hs
  | succ fuel ih =>
    by_cases hb : b = []
    · subst hb
      rw [greedyCut_nil]
      exact isGreedyCut_nil size hs
    · have hpos := List.length_pos_iff.2 hb
      have hrest := ih (b.drop size) (by rw [List.length_drop]; omega)
      rw [greedyCut_of_ne_nil size fuel b hb]
      refine ⟨?_, ?_, ?_, ?_⟩
      · rw [List.flatten_cons, hrest.covers, List.take_append_drop]
      · exact List.forall_mem_cons.2 ⟨List.length_take_le _ _, hrest.bounded⟩
      · by_cases hlast : b.drop size = []
        · simp [hlast, greedyCut_nil]
        · have hne : greedyCut size fuel (b.drop size) ≠ [] := by
            intro h
            exact hlast (by rw [← hrest.covers, h]; rfl)
          rw [List.dropLast_cons_of_ne_nil hne]
          refine List.forall_mem_cons.2 ⟨?_, hrest.full⟩
          rw [List.drop_eq_nil_iff] at hlast
          exact List.length_take_of_le (by omega)
      · rw [List.length_cons, hrest.count, List.length_drop, sliceCount_succ b.length size hs hpos]

/-- Settles O23: a buffer that fits is one chunk, any other is cut greedily. -/
theorem chunksCoverTheBuffer : Obligations.ChunksCoverTheBuffer := by
  intro b maxSize s
  simp only [exec_ok_iff, exec_raised_iff, outcomeOf, map_strList_eq_ok, map_eq_error]
  refine ⟨fun hpos => ?positive, fun hzero => ?zero⟩
  case zero => simp [chunkBytes, hzero]
  case positive =>
    by_cases hle : b.length ≤ maxSize
    · refine ⟨[b], by simp [chunkBytes, hle, Nat.ne_of_gt hpos], by simp, by simpa using hle, by simp, ?_⟩
      have hone : (b.length + maxSize - 1) / maxSize ≤ 1 := by
        rw [Nat.div_le_iff_le_mul hpos]; omega
      exact (Nat.max_eq_left hone).symm
    · have hcut := greedyCut_isGreedyCut maxSize b.length b hpos le_rfl
      refine ⟨_, by simp [chunkBytes, hle, Nat.ne_of_gt hpos], hcut.covers, hcut.bounded, hcut.full, ?_⟩
      have hone : 1 ≤ (b.length + maxSize - 1) / maxSize := by
        rw [Nat.le_div_iff_mul_le hpos]; omega
      rw [hcut.count]
      exact (Nat.max_eq_right hone).symm

/-- Settles O24: the padding is what the length lacks to the next multiple, less a whole width. -/
theorem paddingReachesTheSmallestMultiple : Obligations.PaddingReachesTheSmallestMultiple := by
  intro b width s
  simp only [exec_ok_iff, exec_raised_iff, outcomeOf, map_str_eq_ok, map_eq_error]
  refine ⟨fun hpos => ?positive, fun hzero => by simp [padToMultiple, hzero]⟩
  refine ⟨(width - b.length % width) % width, by simp [padToMultiple, Nat.ne_of_gt hpos], ?_, Nat.mod_lt _ hpos⟩
  have hlt := Nat.mod_lt b.length hpos
  rw [Nat.dvd_iff_mod_eq_zero, Nat.add_mod, Nat.mod_mod, ← Nat.add_mod,
    show b.length + (width - b.length % width) = b.length - b.length % width + width by
      have := Nat.mod_le b.length width; omega,
    Nat.add_mod_right]
  exact Nat.sub_mod_eq_zero_of_mod_eq (Nat.mod_mod _ _).symm

/-! ### Semi-octet reversal -/

theorem reverseEncode_cons_cons (a b : Byte) (rest : Str) :
    reverseEncode (a :: b :: rest) = b :: a :: reverseEncode rest := rfl

theorem swapBack_cons_cons (a b : Byte) (rest : Str) (hne : rest ≠ []) :
    swapBack (a :: b :: rest) = b :: a :: swapBack rest := by
  obtain ⟨c, cs, rfl⟩ := List.exists_cons_of_ne_nil hne
  rfl

/-- The last pair gives both its characters, or one where the filler stands first. -/
theorem swapBack_pair (a b : Byte) : swapBack [a, b] = if a = FILLER then [b] else [b, a] := rfl

theorem reverseEncode_length : ∀ d : Str, (reverseEncode d).length = d.length + d.length % 2
  | [] => rfl
  | [_] => rfl
  | a :: b :: rest => by
    simp only [reverseEncode_cons_cons, List.length_cons, reverseEncode_length rest]
    omega

theorem reverseEncode_getElem?_pair : ∀ (d : Str) (i : Nat), 2 * i + 1 < d.length →
    (reverseEncode d)[2 * i]? = d[2 * i + 1]? ∧ (reverseEncode d)[2 * i + 1]? = d[2 * i]?
  | [], _, h => by simp at h
  | [_], _, h => by simp at h
  | a :: b :: rest, 0, _ => ⟨rfl, rfl⟩
  | a :: b :: rest, i + 1, h => by
    simp only [List.length_cons] at h
    exact reverseEncode_getElem?_pair rest i (by omega)

theorem reverseEncode_getElem?_lone : ∀ d : Str, d.length % 2 = 1 →
    (reverseEncode d)[d.length - 1]? = some FILLER ∧ (reverseEncode d)[d.length]? = d[d.length - 1]?
  | [], h => by simp at h
  | [_], _ => ⟨rfl, rfl⟩
  | a :: b :: rest, h => by
    simp only [List.length_cons] at h
    have hrest : rest.length = rest.length - 1 + 1 := by omega
    obtain ⟨hfiller, hlast⟩ := reverseEncode_getElem?_lone rest (by omega)
    rw [reverseEncode_cons_cons, List.length_cons, List.length_cons, Nat.add_sub_cancel, hrest]
    simp only [List.getElem?_cons_succ]
    rw [← hrest]
    exact ⟨hfiller, hlast⟩

/-- Settles O25, by recursion over the pairs. -/
theorem reverseEncodeSwapsEveryPair : Obligations.ReverseEncodeSwapsEveryPair := by
  refine ⟨fun _ => rfl, fun d s => ⟨reverseEncode d, ?_, reverseEncode_length d, ?_, ?_⟩⟩
  · exact (exec_ok_iff _ _ _).2 rfl
  · exact reverseEncode_getElem?_pair d
  · exact reverseEncode_getElem?_lone d

/-- REVENC undoes REVDEC on every string of whole pairs (R122). -/
theorem reverseEncode_swapBack : ∀ r : Str, r.length % 2 = 0 → reverseEncode (swapBack r) = r
  | [], _ => rfl
  | [_], h => by simp at h
  | [a, b], _ => by
    rw [swapBack_pair]
    split
    case isTrue ha => rw [ha]; rfl
    case isFalse => rfl
  | a :: b :: c :: rest, h => by
    simp only [List.length_cons] at h
    have ih := reverseEncode_swapBack (c :: rest) (by simp only [List.length_cons]; omega)
    rw [swapBack_cons_cons a b _ (List.cons_ne_nil c rest), reverseEncode_cons_cons, ih]

/-- REVDEC undoes REVENC on every string without the filler (R122). -/
theorem swapBack_reverseEncode : ∀ d : Str, FILLER ∉ d → swapBack (reverseEncode d) = d
  | [], _ => rfl
  | [x], _ => by simp [reverseEncode, swapBack_pair]
  | [a, b], h => by
    have hb : b ≠ FILLER := by rintro rfl; simp at h
    simp [reverseEncode, swapBack_pair, hb]
  | a :: b :: c :: rest, h => by
    have hrest : FILLER ∉ c :: rest := fun hmem => h (List.mem_cons_of_mem a (List.mem_cons_of_mem b hmem))
    have hne : reverseEncode (c :: rest) ≠ [] := by
      intro hnil
      have hlen := reverseEncode_length (c :: rest)
      rw [hnil, List.length_cons, List.length_nil] at hlen
      omega
    rw [reverseEncode_cons_cons, swapBack_cons_cons _ _ _ hne, swapBack_reverseEncode (c :: rest) hrest]

/-- The domain of REVDEC as the statements write it (R121, D19). -/
theorem reverseDecodable_iff (r : Str) :
    reverseDecodable r = true ↔ r.length % 2 = 0 ∧ ∀ i, r[i]? = some FILLER → i + 2 = r.length := by
  simp only [reverseDecodable, Bool.and_eq_true, beq_iff_eq, List.all_eq_true, List.mem_range, Bool.or_eq_true,
    bne_iff_ne, ne_eq]
  refine and_congr_right fun _ => forall_congr' fun i => ?_
  by_cases hi : i < r.length
  · simp [hi, imp_iff_not_or]
  · simp [hi]

theorem reverseDecode_of_decodable (r : Str) (h : reverseDecodable r = true) : reverseDecode r = .ok (swapBack r) := by
  simp [reverseDecode, h]

theorem reverseDecode_of_not_decodable (r : Str) (h : ¬ reverseDecodable r = true) :
    reverseDecode r = .error .undefinedInput := by
  simp [reverseDecode, h]

/-- REVDEC drops one character where the filler stands at the last index but one, and none otherwise. -/
theorem swapBack_length : ∀ r : Str, r.length % 2 = 0 →
    ((∃ i, i + 2 = r.length ∧ r[i]? = some FILLER) ∧ (swapBack r).length + 1 = r.length) ∨
    ((∀ i, i + 2 = r.length → r[i]? ≠ some FILLER) ∧ (swapBack r).length = r.length)
  | [], _ => .inr ⟨by simp, rfl⟩
  | [_], h => by simp at h
  | [a, b], _ => by
    by_cases ha : a = FILLER
    · exact .inl ⟨⟨0, rfl, by simp [ha]⟩, by simp [swapBack_pair, ha]⟩
    · refine .inr ⟨fun i hi => ?_, by simp [swapBack_pair, ha]⟩
      obtain rfl : i = 0 := by simpa using hi
      simpa using ha
  | a :: b :: c :: rest, h => by
    simp only [List.length_cons] at h
    have ih := swapBack_length (c :: rest) (by simp only [List.length_cons]; omega)
    rw [swapBack_cons_cons a b _ (List.cons_ne_nil c rest)]
    obtain ⟨⟨i, hi, hfiller⟩, hlen⟩ | ⟨hnone, hlen⟩ := ih
    · exact .inl ⟨⟨i + 2, by simpa using hi, hfiller⟩, by simpa using hlen⟩
    · refine .inr ⟨fun i hi => ?_, by simpa using hlen⟩
      obtain ⟨j, rfl⟩ : ∃ j, i = j + 2 := ⟨i - 2, by simp only [List.length_cons] at hi; omega⟩
      exact hnone j (by simpa using hi)

/-- Settles O26: on its domain REVDEC is undone by REVENC, and the filler can stand at one place only. -/
theorem reverseDecodeInvertsOnItsDomain : Obligations.ReverseDecodeInvertsOnItsDomain := by
  intro r s
  simp only [exec_ok_iff, exec_raised_iff, outcomeOf, map_str_eq_ok, map_eq_error]
  constructor
  · rintro ⟨heven, hplace⟩
    have hdec := reverseDecode_of_decodable r ((reverseDecodable_iff r).2 ⟨heven, hplace⟩)
    refine ⟨swapBack r, hdec, by rw [reverseEncode_swapBack r heven], ?_, ?_⟩
    · intro hmem
      obtain ⟨i, hi⟩ := List.mem_iff_getElem?.1 hmem
      obtain ⟨-, hlen⟩ | ⟨hnone, -⟩ := swapBack_length r heven
      · exact hlen
      · exact absurd hi (hnone i (hplace i hi))
    · intro hnot
      obtain ⟨⟨i, -, hi⟩, -⟩ | ⟨-, hlen⟩ := swapBack_length r heven
      · exact absurd (List.mem_of_getElem? hi) hnot
      · exact hlen
  · intro hbad
    refine reverseDecode_of_not_decodable r fun hdom => ?_
    obtain ⟨heven, hplace⟩ := (reverseDecodable_iff r).1 hdom
    obtain hodd | ⟨i, hi, hne⟩ := hbad
    · omega
    · exact hne (hplace i hi)

/-- In what REVENC writes for a filler-free string the filler stands at the last index but one only. -/
theorem place_of_filler_reverseEncode : ∀ (d : Str) (i : Nat), FILLER ∉ d → (reverseEncode d)[i]? = some FILLER →
    i + 2 = (reverseEncode d).length
  | [], _, _, h => by simp [reverseEncode] at h
  | [_], 0, _, _ => rfl
  | [x], i + 1, hd, h => by
    have hx : FILLER = x := by simpa using List.mem_of_getElem? (show [x][i]? = some FILLER from h)
    simp [hx] at hd
  | a :: b :: rest, 0, hd, h => by
    have hb : b = FILLER := Option.some.inj h
    simp [hb] at hd
  | a :: b :: rest, 1, hd, h => by
    have ha : a = FILLER := Option.some.inj h
    simp [ha] at hd
  | a :: b :: rest, i + 2, hd, h => by
    simp only [List.mem_cons, not_or] at hd
    obtain ⟨-, -, hrest⟩ := hd
    have ih := place_of_filler_reverseEncode rest i hrest h
    rw [reverseEncode_cons_cons, List.length_cons, List.length_cons, ← ih]

/-- What REVENC writes for a filler-free string lies in the domain of REVDEC (R121, R122). -/
theorem reverseDecodable_reverseEncode (d : Str) (hd : FILLER ∉ d) : reverseDecodable (reverseEncode d) = true := by
  have hlen := reverseEncode_length d
  exact (reverseDecodable_iff _).2 ⟨by omega, fun i => place_of_filler_reverseEncode d i hd⟩

/-- Settles O27: what REVENC writes lies in the domain of REVDEC. -/
theorem reversalRoundTripsWithoutFiller : Obligations.ReversalRoundTripsWithoutFiller := by
  intro d s hd
  have hdec := reverseDecode_of_decodable _ (reverseDecodable_reverseEncode d hd)
  rw [swapBack_reverseEncode d hd] at hdec
  exact ⟨reverseEncode d, (exec_ok_iff _ _ _).2 rfl, (exec_ok_iff _ _ _).2 (map_ok _ _ _ hdec)⟩

/-! ### Sequence counters -/

theorem advanceCounter_of_le (value min max : Nat) (h : max ≤ value) : advanceCounter value min max = min := by
  simp [advanceCounter, h]

theorem advanceCounter_of_lt (value min max : Nat) (h : value < max) : advanceCounter value min max = value + 1 := by
  simp [advanceCounter, Nat.not_le.2 h]

/-- An advanced counter is in its range, whatever it was, where the range is not empty (R134). -/
theorem advanceCounter_le (value min max : Nat) (h : min ≤ max) : advanceCounter value min max ≤ max := by
  unfold advanceCounter
  split <;> omega

theorem le_advanceCounter (value min max : Nat) (h : min ≤ value) : min ≤ advanceCounter value min max := by
  unfold advanceCounter
  split <;> omega

/-- Settles O28, by the two branches of the advance. -/
theorem advanceWrapsAtTheMaximum : Obligations.AdvanceWrapsAtTheMaximum := by
  refine ⟨fun _ => rfl, fun value min max s => ?_⟩
  simp only [exec_ok_iff, outcomeOf]
  exact ⟨fun h => by rw [advanceCounter_of_le _ _ _ h], fun h => by rw [advanceCounter_of_lt _ _ _ h]⟩

/-- Settles O29: the number that the digits write is the one they are read as. -/
theorem advanceReadsADecimalString : Obligations.AdvanceReadsADecimalString := by
  intro text min max s
  simp only [exec_ok_iff, exec_raised_iff, outcomeOf, map_nat_eq_ok, map_eq_error]
  constructor
  · rintro ⟨hne, hdigits⟩
    obtain ⟨hdec, hlt⟩ := dec_undec text hdigits
    exact ⟨undec text, hdec, hlt, by rw [advanceDecimal, decimalValue_some text hne hdigits]; rfl⟩
  · intro hbad
    rw [advanceDecimal, decimalValue_none text hbad]

theorem renderTrn_of_le (value : Nat) (h : value ≤ 99) : renderTrn value = .ok (dec 2 value) := by
  simp [renderTrn, Nat.not_lt.2 h]

theorem renderTrn_of_gt (value : Nat) (h : 99 < value) : renderTrn value = .error .undefinedInput := by
  simp [renderTrn, h]

theorem dec_two (v : Nat) : dec 2 v = [digit (v / 10 % 10), digit (v % 10)] := rfl

/-- Settles O30: below 100 the tens are a single digit. -/
theorem renderTrnWritesTwoDigits : Obligations.RenderTrnWritesTwoDigits := by
  intro value s
  simp only [exec_ok_iff, exec_raised_iff, outcomeOf, map_str_eq_ok, map_eq_error]
  refine ⟨fun h => ?_, renderTrn_of_gt value⟩
  have htens : value / 10 % 10 = value / 10 := by omega
  rw [renderTrn_of_le value h, dec_two, htens]
  rfl

/-- From the minimum a counter reaches every value of its range in turn. -/
theorem advanceCounter_iterate (min max k : Nat) (hk : k ≤ max - min) :
    (fun v => advanceCounter v min max)^[k] min = min + k := by
  induction k with
  | zero => rfl
  | succ k ih =>
    rw [Function.iterate_succ_apply', ih (by omega), advanceCounter_of_lt _ _ _ (by omega), Nat.add_assoc]

/-- Settles O31: the maximum is reached after max - min steps, and the next one wraps. -/
theorem counterStaysInRangeAndCycles : Obligations.CounterStaysInRangeAndCycles := by
  intro min max hle
  refine ⟨fun value s hmin _ => ?stays, fun k => advanceCounter_iterate min max k, ?cycles⟩
  case stays =>
    exact ⟨_, (exec_ok_iff _ _ _).2 rfl, le_advanceCounter value min max hmin, advanceCounter_le value min max hle⟩
  case cycles =>
    rw [Function.iterate_succ_apply', advanceCounter_iterate min max _ le_rfl, advanceCounter_of_le _ _ _ (by omega)]

/-! ### Sender address codec -/

theorem semiOctetScan_cons_cons (a b : Byte) (rest : Str) :
    semiOctetScan (a :: b :: rest) = (if a = 0x30 then 1 else 2) + semiOctetScan rest := rfl

/-- Whether pair i of a string begins with the digit zero (R143). -/
def zeroPair (h : Str) (i : Nat) : Bool := h.getD (2 * i) 0 == 0x30

theorem zeroPair_zero (a b : Byte) (rest : Str) : zeroPair (a :: b :: rest) 0 = (a == 0x30) := rfl

theorem zeroPair_succ (a b : Byte) (rest : Str) (i : Nat) : zeroPair (a :: b :: rest) (i + 1) = zeroPair rest i := rfl

/-- The scan misses one for each pair that begins with zero. -/
theorem semiOctetScan_add_countP : ∀ h : Str, h.length % 2 = 0 →
    semiOctetScan h + (List.range (h.length / 2)).countP (zeroPair h) = h.length
  | [], _ => rfl
  | [_], h => by simp at h
  | a :: b :: rest, h => by
    simp only [List.length_cons] at h ⊢
    have ih := semiOctetScan_add_countP rest (by omega)
    have hhalf : (rest.length + 1 + 1) / 2 = rest.length / 2 + 1 := by omega
    have htail : (zeroPair (a :: b :: rest)) ∘ Nat.succ = zeroPair rest := funext (zeroPair_succ a b rest)
    rw [semiOctetScan_cons_cons, hhalf, List.range_succ_eq_map, List.countP_cons, List.countP_map, htail,
      zeroPair_zero]
    simp only [beq_iff_eq]
    split <;> omega

/-- Settles O32: the scan runs over whole pairs. -/
theorem semiOctetCountScansPairs : Obligations.SemiOctetCountScansPairs := by
  intro h s
  simp only [exec_ok_iff, exec_raised_iff, outcomeOf, map_nat_eq_ok, map_eq_error]
  refine ⟨fun heven => ⟨semiOctetScan h, ?_, semiOctetScan_add_countP h heven⟩, fun hodd => ?_⟩
  · simp [semiOctetCount, heven]
  · simp [semiOctetCount, hodd]

/-- The hex text of a byte begins with zero exactly for a byte below 16. -/
theorem hexDigit_high_eq_zero_iff : ∀ c : Byte, hexDigit (c.extractLsb' 4 4) = 0x30 ↔ c.toNat < 16 := by decide

/-- The count of a packed text's hex form (R144): two a byte, less one for each byte below 16. -/
theorem semiOctetScan_hexText (p : Str) :
    semiOctetScan (hexText p) + (p.countP fun c => decide (c.toNat < 16)) = 2 * p.length := by
  induction p with
  | nil => rfl
  | cons c p ih =>
    rw [hexText_cons, byteToHex, List.cons_append, List.cons_append, List.nil_append, semiOctetScan_cons_cons,
      List.countP_cons, List.length_cons]
    simp only [hexDigit_high_eq_zero_iff, decide_eq_true_eq]
    split <;> omega

theorem encodeSender_of_digits (p : Params) (text : Str) (h : ∀ c ∈ text, isDigit c = true) :
    encodeSender p text = .ok ([], text) := by
  rw [encodeSender, if_pos (List.all_eq_true.2 h)]

/-- SNDENC of a text that is not numeric, by the count of its packed form (R144, D22). -/
theorem encodeSender_of_text (p : Params) (text packed : Str) (n : Nat) (h : ∃ c ∈ text, isDigit c = false)
    (hpacked : packed = pack7 p (toWire p text))
    (hn : n + (packed.countP fun c => decide (c.toNat < 16)) = 2 * packed.length) :
    (n ≤ 255 → encodeSender p text = .ok (ALNUM_OTOA, byteToHex (BitVec.ofNat 8 n) ++ hexText packed)) ∧
    (255 < n → encodeSender p text = .error .undefinedInput) := by
  obtain ⟨hall, -⟩ | ⟨hex, m, -, rfl, rfl, hcase⟩ := encodeSender_cases p text
  · obtain ⟨c, hc, hnot⟩ := h
    simp [List.all_eq_true.1 hall c hc] at hnot
  · have hcount := semiOctetScan_hexText packed
    obtain rfl : n = semiOctetScan (hexText packed) := by omega
    rw [← hpacked] at hcase
    obtain ⟨hle, henc⟩ | ⟨hgt, henc⟩ := hcase
    · exact ⟨fun _ => henc, fun hgt => absurd hgt (Nat.not_lt.2 hle)⟩
    · exact ⟨fun hle => absurd hgt (Nat.not_lt.2 hle), fun _ => henc⟩

theorem exec_sndenc_sender_iff (text : Str) (s : State) (otoa field : Str) :
    exec (.sndenc text) s = .next { s with returned := some (.ok (.sender otoa field)) } ↔
      encodeSender s.params text = .ok (otoa, field) := by
  rw [exec_ok_iff, outcomeOf]
  exact map_eq_ok_of_injective (f := fun r : Str × Str => Results.sender r.1 r.2)
    (fun _ _ h => by injection h with h1 h2; exact Prod.ext h1 h2) _ (otoa, field)

/-- Settles O33: the count that SNDENC writes is two a packed byte, less one for each below 16. -/
theorem senderIsNumericOrPackedWithItsCount : Obligations.SenderIsNumericOrPackedWithItsCount := by
  intro text s
  simp only [exec_sndenc_sender_iff, exec_raised_iff, outcomeOf, map_eq_error]
  refine ⟨encodeSender_of_digits s.params text, fun packed n halpha hpacked hn => ?_⟩
  obtain ⟨hfits, hlarge⟩ := encodeSender_of_text s.params text packed n halpha hpacked hn
  refine ⟨fun hle => ?_, hlarge⟩
  rw [hfits hle, byteToHex_ofNat n hle]
  rfl

/-- Settles O34, by the three things SNDDEC can do. -/
theorem senderDecodeDropsThePrefix : Obligations.SenderDecodeDropsThePrefix := by
  intro otoa field s
  simp only [exec_ok_iff, exec_raised_iff, outcomeOf, map_str_eq_ok, map_eq_error]
  obtain ⟨hne, hdec⟩ | ⟨heq, c, d, b, rfl, hdec⟩ | ⟨heq, hform, hdec⟩ := decodeSender_cases s.params otoa field
  · exact ⟨fun _ => hdec, fun heq => absurd heq hne, fun heq => absurd heq hne⟩
  · refine ⟨fun hne => absurd heq hne, fun _ c' d' b' hfield => ?_, fun _ hform => absurd rfl (hform c d b)⟩
    have hbytes : hexText b = hexText b' := by injection hfield with _ h; injection h
    have hb : (Except.ok b : Except Error Str) = .ok b' := by
      rw [← hexToBytes_hexText b, hbytes, hexToBytes_hexText]
    rw [hdec, Except.ok.inj hb]
  · exact ⟨fun hne => absurd heq hne, fun _ c d b hfield => absurd hfield (hform c d b), fun _ _ => hdec⟩

theorem decodeSender_of_other_type (p : Params) (otoa field : Str) (h : otoa ≠ ALNUM_OTOA) :
    decodeSender p otoa field = .ok field := by
  simp [decodeSender, h]

/-- SNDDEC of a field that SNDENC makes of a packed text. -/
theorem decodeSender_of_packed (p : Params) (c : Byte) (packed : Str) :
    decodeSender p ALNUM_OTOA (byteToHex c ++ hexText packed) = .ok (toLocal p (unpack7 p packed)) := by
  simp [decodeSender, byteToHex, hexToBytes_hexText]

/-- Settles O35: behind the count stands the hex text of what the packer made. -/
theorem senderRoundTripsWhereCollaboratorsDo : Obligations.SenderRoundTripsWhereCollaboratorsDo := by
  intro text s
  simp only [exec_sndenc_sender_iff]
  simp only [exec_ok_iff, outcomeOf, map_str_eq_ok]
  constructor
  · exact fun hdigits => ⟨encodeSender_of_digits s.params text hdigits,
      decodeSender_of_other_type s.params [] text (by decide)⟩
  · intro packed n halpha hpacked hn hle hunpack hlocal
    obtain ⟨hfits, -⟩ := encodeSender_of_text s.params text packed n halpha hpacked hn
    exact ⟨_, _, hfits hle, by rw [decodeSender_of_packed, hunpack, hlocal]⟩

/-! ### The default packer -/

theorem septetStream_cons (c : Byte) (w : Str) : septetStream (c :: w) = c.toNat % 128 + septetStream w * 128 := by
  rw [septetStream, List.foldr_cons, Nat.shiftLeft_eq]
  rfl

theorem byteStream_cons (c : Byte) (b : Str) : byteStream (c :: b) = c.toNat + byteStream b * 256 := by
  rw [byteStream, List.foldr_cons, Nat.shiftLeft_eq]
  rfl

/-- Septet i of the stream, zero past the end of the text (R140). -/
theorem septetStream_septet (w : Str) (i : Nat) :
    (septetStream w >>> (7 * i)) % 128 = (w.getD i 0).toNat % 128 := by
  induction w generalizing i with
  | nil => simp [septetStream]
  | cons c w ih =>
    rw [septetStream_cons]
    cases i with
    | zero => simp
    | succ i =>
      have hshift : (c.toNat % 128 + septetStream w * 128) / 2 ^ 7 = septetStream w := by omega
      rw [Nat.mul_succ 7, Nat.add_comm (7 * i), Nat.shiftRight_add, Nat.shiftRight_eq_div_pow _ 7, hshift, ih i,
        List.getD_cons_succ]

theorem septetStream_lt (w : Str) : septetStream w < 2 ^ (7 * w.length) := by
  induction w with
  | nil => decide
  | cons c w ih =>
    rw [septetStream_cons, List.length_cons, Nat.mul_succ 7, Nat.pow_add]
    omega

/-- The bytes of a number, as many as asked for, are its stream again (R141). -/
theorem byteStream_bytes (m N : Nat) :
    byteStream ((List.range m).map fun k => BitVec.ofNat 8 (N >>> (8 * k))) = N % 2 ^ (8 * m) := by
  induction m generalizing N with
  | zero => simp [byteStream, Nat.mod_one]
  | succ m ih =>
    have htail : (fun k => BitVec.ofNat 8 (N >>> (8 * k))) ∘ Nat.succ =
        fun k => BitVec.ofNat 8 ((N >>> 8) >>> (8 * k)) := by
      funext k
      rw [Function.comp_apply, ← Nat.shiftRight_add, Nat.mul_succ, Nat.add_comm]
    rw [List.range_succ_eq_map, List.map_cons, List.map_map, htail, byteStream_cons, ih,
      Nat.shiftRight_eq_div_pow N 8, BitVec.toNat_ofNat, Nat.mul_zero, Nat.shiftRight_zero, Nat.mul_succ 8,
      Nat.add_comm (8 * m), Nat.pow_add, Nat.mod_mul, Nat.mul_comm (2 ^ 8)]

theorem defaultPack7_length (w : Str) : (defaultPack7 w).length = (7 * w.length + 7) / 8 := by
  simp [defaultPack7]

/-- The packed bytes hold the whole stream of septets. -/
theorem byteStream_defaultPack7 (w : Str) : byteStream (defaultPack7 w) = septetStream w := by
  have hfits : septetStream w < 2 ^ (8 * ((7 * w.length + 7) / 8)) :=
    Nat.lt_of_lt_of_le (septetStream_lt w) (Nat.pow_le_pow_right (by decide) (by omega))
  rw [defaultPack7, byteStream_bytes, Nat.mod_eq_of_lt hfits]

/-- What the default unpacker makes of packed septets: the septets, and zero for those past the end. -/
theorem defaultUnpack7_defaultPack7 (w : Str) (h : ∀ c ∈ w, c.toNat < 128) :
    defaultUnpack7 (defaultPack7 w) = (List.range (8 * ((7 * w.length + 7) / 8) / 7)).map fun i => w.getD i 0 := by
  rw [defaultUnpack7, defaultPack7_length, byteStream_defaultPack7]
  refine List.map_congr_left fun i _ => ?_
  have hlt : (w.getD i 0).toNat < 128 := by
    by_cases hi : i < w.length
    · rw [List.getD_eq_getElem _ _ hi]
      exact h _ (List.getElem_mem hi)
    · rw [List.getD_eq_default _ _ (Nat.le_of_not_lt hi)]
      decide
  rw [septetStream_septet, Nat.mod_eq_of_lt hlt, BitVec.ofNat_toNat, BitVec.setWidth_eq]

theorem map_getD_range (w : Str) : ((List.range w.length).map fun i => w.getD i 0) = w := by
  refine List.ext_getElem (by simp) fun i _ hi => ?_
  rw [List.getElem_map, List.getElem_range, List.getD_eq_getElem _ _ hi]

/-- How many septets the bytes of n packed septets have room for (R140, R141). -/
theorem septets_of_packed (n : Nat) :
    8 * ((7 * n + 7) / 8) / 7 = if n % 8 = 7 then n + 1 else n := by
  have hbytes : (7 * n + 7) / 8 = 7 * (n / 8) + (7 * (n % 8) + 7) / 8 := by omega
  have hlt : n % 8 < 8 := Nat.mod_lt n (by decide)
  generalize hr : n % 8 = r at *
  interval_cases r <;> simp <;> omega

/-- Settles O36: the packed bytes have room for one septet more exactly when the length is 7 modulo 8. -/
theorem defaultUnpackerInvertsThePacker : Obligations.DefaultUnpackerInvertsThePacker := by
  intro w hw
  rw [defaultUnpack7_defaultPack7 w hw, septets_of_packed]
  refine ⟨fun hne => ?_, fun heq => ?_⟩
  · rw [if_neg hne, map_getD_range]
  · rw [if_pos heq, List.range_succ, List.map_append, map_getD_range, List.map_singleton,
      List.getD_eq_default _ _ le_rfl]

/-- Settles O37, by running the model on the example. -/
theorem workedSenderExample : Obligations.WorkedSenderExample := ⟨rfl, rfl⟩

/-! ### JOIN, SPLIT, WRAP, RENDER -/

/-- Settles O38: SPLIT undoes JOIN on such a list, and no other list is a result of SPLIT. -/
theorem joinPutsOneSeparatorBetweenFields : Obligations.JoinPutsOneSeparatorBetweenFields := by
  simp only [Obligations.JoinPutsOneSeparatorBetweenFields, exec_ok_iff, outcomeOf]
  refine ⟨fun _ => rfl, fun _ => rfl, fun f l s => ?_, fun l s => ⟨joinFields l, rfl, ?_⟩⟩
  · rw [joinFields_cons, List.flatMap_def]
  · rw [Except.ok.injEq, Results.strList.injEq]
    constructor
    · intro hsplit
      rw [← hsplit]
      exact ⟨splitFields_ne_nil _, splitFields_noSep _⟩
    · rintro ⟨hne, hsep⟩
      exact splitFields_joinFields l hne hsep

/-- Settles O45: JOIN undoes SPLIT. -/
theorem splitKeepsEveryField : Obligations.SplitKeepsEveryField := by
  simp only [Obligations.SplitKeepsEveryField, exec_ok_iff, outcomeOf]
  exact ⟨fun _ => rfl, fun text _ =>
    ⟨splitFields text, rfl, splitFields_length text, splitFields_noSep text, by rw [joinFields_splitFields]⟩⟩

/-- Settles O41: what WRAP is. -/
theorem wrapAddsTheDelimiters : Obligations.WrapAddsTheDelimiters :=
  ⟨fun _ => rfl, fun _ _ => rfl⟩

/-- Settles O43: what RENDER is, for each variant. -/
theorem renderListsTheFieldsInOrder : Obligations.RenderListsTheFieldsInOrder := by
  intro s
  refine ⟨?address, ?session, ?submit, ?ackWithoutMvp, ?ackWithMvp, ?nack⟩
  all_goals intros; rfl

/-! ### CSUM -/

/-- The checksum tells the byte sums modulo 256 apart. -/
theorem byteToHex_injective : ∀ a b : Byte, byteToHex a = byteToHex b → a = b := by
  intro a b h
  have hnibbles : hexText [a] = hexText [b] := by rw [hexText_cons, hexText_cons, h]
  have hok : (Except.ok [a] : Except Error Str) = .ok [b] := by
    rw [← hexToBytes_hexText, hnibbles, hexToBytes_hexText]
  exact List.singleton_inj.1 (Except.ok.inj hok)

theorem checksum_eq_byteToHex_sum (m : Str) : checksum m = byteToHex m.sum := by
  rw [checksum, List.sum_eq_foldl]

theorem checksum_perm (m m' : Str) (h : m.Perm m') : checksum m = checksum m' := by
  rw [checksum_eq_byteToHex_sum, checksum_eq_byteToHex_sum, h.sum_eq]

/-- One changed byte changes the sum, because the other bytes add the same to both. -/
theorem checksum_ne_of_changed_byte (before after : Str) (a b : Byte) (h : a ≠ b) :
    checksum (before ++ a :: after) ≠ checksum (before ++ b :: after) := by
  intro heq
  rw [checksum_eq_byteToHex_sum, checksum_eq_byteToHex_sum] at heq
  have hsum := byteToHex_injective _ _ heq
  simp only [List.sum_append, List.sum_cons] at hsum
  exact h ((BitVec.add_left_inj _).1 ((BitVec.add_right_inj _).1 hsum))

/-- Settles O39: the checksum is the sum of the bytes. -/
theorem checksumIsTheByteSum : Obligations.ChecksumIsTheByteSum := by
  refine ⟨fun _ => rfl, fun m s => ?sum, fun m m' s hperm => ?order, fun before after a b s hne heq => ?changed⟩
  case sum => rw [exec_ok_iff, outcomeOf, checksum_eq]
  case order => rw [exec_eq_answer, exec_eq_answer, outcomeOf, outcomeOf, checksum_perm m m' hperm]
  case changed =>
    have hsum := (exec_ok_iff (.csum (before ++ b :: after)) s _).2 rfl
    rw [← heq, exec_ok_iff, outcomeOf] at hsum
    injection hsum with hsum
    injection hsum with hsum
    exact checksum_ne_of_changed_byte before after a b hne hsum

/-! ### COMPOSE and CREATE -/

/-- Settles O40: the message is what stands before the checksum, and the checksum. -/
theorem composedMessageIsLaidOut : Obligations.ComposedMessageIsLaidOut := by
  intro trn role ot fields s body n hbody hn
  subst hbody
  simp only [exec_ok_iff, exec_raised_iff, outcomeOf, map_str_eq_ok, map_eq_error,
    composeMessage_eq trn role ot fields n hn]
  refine ⟨fun hle => ?fits, fun hgt => by rw [if_pos hgt]⟩
  have hlen := uncheckedMessage_length trn role ot n (joinFields fields)
  refine ⟨_, uncheckedMessage trn role ot n (joinFields fields), _, by rw [if_neg (Nat.not_lt.2 hle)], rfl, ?_, rfl,
    rfl⟩
  rw [List.length_append, checksum_length, CHECKSUM_LEN]
  omega

/-- What CREATE does with legal parameters: it composes with the advanced number in two digits (R164). -/
theorem createMessage_eq (p : Params) (current : Nat) (ot : Str) (fields : List Str) (hp : p.Legal) :
    createMessage p current ot fields =
      (composeMessage (dec 2 (advanceCounter current p.trnMin p.trnMax)) ROLE_O ot fields).map
        fun m => (advanceCounter current p.trnMin p.trnMax, m) := by
  obtain ⟨-, -, -, -, -, hrange, hmax, -⟩ := hp
  have hle := advanceCounter_le current p.trnMin p.trnMax hrange
  have hrender := renderTrn_of_le (advanceCounter current p.trnMin p.trnMax) (by omega)
  cases hm : composeMessage (dec 2 (advanceCounter current p.trnMin p.trnMax)) ROLE_O ot fields with
  | error e => simp only [createMessage, hrender, hm]; rfl
  | ok m => simp only [createMessage, hrender, hm]; rfl

/-- Settles O42: the advanced number has two digits, so the length is that of the operation type and the body and 15
more. -/
theorem createCarriesTheAdvancedNumber : Obligations.CreateCarriesTheAdvancedNumber := by
  intro current ot fields s body next hp hbody hnext
  subst hbody
  obtain rfl : next = advanceCounter current s.params.trnMin s.params.trnMax := hnext
  have hcreate := createMessage_eq s.params current ot fields hp
  obtain ⟨-, -, -, -, -, hrange, hmax, -⟩ := hp
  have hle := advanceCounter_le current s.params.trnMin s.params.trnMax hrange
  generalize advanceCounter current s.params.trnMin s.params.trnMax = next at *
  have hcompose := composeMessage_eq (dec 2 next) ROLE_O ot fields (ot.length + (joinFields fields).length + 15)
    (by rw [dec_length, ROLE_O, List.length_singleton]; omega)
  simp only [exec_ok_iff, exec_raised_iff, outcomeOf, map_str_eq_ok, map_eq_error, hcreate]
  refine ⟨fun hfits => ?_, fun hlong => by rw [hcompose, if_pos hlong]⟩
  rw [if_neg (Nat.not_lt.2 hfits)] at hcompose
  exact ⟨dec 2 next, _, renderTrn_of_le next (by omega), hcompose, by rw [hcompose]; rfl⟩

/-- Settles O44: FRAME wraps what COMPOSE delivers. -/
theorem pseudoOperationsAbbreviate : Obligations.PseudoOperationsAbbreviate := by
  intro s
  refine ⟨fun _ => rfl, fun _ => rfl, fun trn role ot fields m f => ?_⟩
  simp only [exec_ok_iff, outcomeOf, map_str_eq_ok, Except.ok.injEq, Results.str.injEq]
  rintro hm rfl
  exact map_ok _ _ m hm

/-! ### Slices of a buffer -/

theorem slice_append (s : Str) (i j k : Nat) (hij : i ≤ j) (hjk : j ≤ k) :
    slice s i j ++ slice s j k = slice s i k := by
  have hdrop : s.drop j = (s.drop i).drop (j - i) := by rw [List.drop_drop]; congr 1; omega
  rw [slice, slice, slice, hdrop, ← List.take_add]
  congr 1
  omega

theorem slice_single (s : Str) (i : Nat) (c : Byte) (h : s[i]? = some c) : slice s i (i + 1) = [c] := by
  obtain ⟨hi, rfl⟩ := List.getElem?_eq_some_iff.1 h
  rw [slice, Nat.add_sub_cancel_left, List.drop_eq_getElem_cons hi, List.take_succ_cons, List.take_zero]

theorem slice_all (s : Str) : slice s 0 s.length = s := by
  simp [slice]

theorem slice_length (s : Str) (i j : Nat) (hij : i ≤ j) (hj : j ≤ s.length) : (slice s i j).length = j - i := by
  rw [slice, List.length_take, List.length_drop]
  omega

/-- What stands between two parts of a buffer is the slice at its place. -/
theorem slice_between (a b c : Str) (i j : Nat) (hi : i = a.length) (hj : j = a.length + b.length) :
    slice (a ++ b ++ c) i j = b := by
  subst hi hj
  rw [slice, List.append_assoc, List.drop_left, Nat.add_sub_cancel_left, List.take_left]

theorem getElem?_between (a c : Str) (x : Byte) (i : Nat) (hi : i = a.length) : (a ++ [x] ++ c)[i]? = some x := by
  subst hi
  simp

/-! ### The byte pattern of a frame (R185) -/

/-- A frame up to its checksum: the start delimiter, the header region and the body text, each behind its separator. -/
def frameFront (p : Params) (region bodyText : Str) : Str := [p.stx] ++ region ++ [SEP] ++ bodyText ++ [SEP]

/-- The byte pattern of a frame: its front, the checksum and the end delimiter. -/
def framePattern (p : Params) (region bodyText sum : Str) : Str := frameFront p region bodyText ++ sum ++ [p.etx]

theorem frameFront_length (p : Params) (region bodyText : Str) :
    (frameFront p region bodyText).length = region.length + bodyText.length + 3 := by
  simp only [frameFront, List.length_append, List.length_singleton]
  omega

/-- A buffer with the delimiters and separators in their places is the pattern of its slices. -/
theorem eq_framePattern_of_places (p : Params) (buf : Str) (k : Nat) (hlen : buf.length = k + 19)
    (hstx : buf[0]? = some p.stx) (hsep : buf[14]? = some SEP) (hsep' : buf[15 + k]? = some SEP)
    (hetx : buf.getLast? = some p.etx) :
    buf = framePattern p (headerRegion buf) (slice buf 15 (15 + k)) (slice buf (16 + k) (18 + k)) := by
  rw [List.getLast?_eq_getElem?, hlen] at hetx
  have h0 := slice_single buf 0 _ hstx
  have h1 := slice_single buf 14 _ hsep
  have h2 := slice_single buf (15 + k) _ hsep'
  have h3 := slice_single buf (18 + k) _ (by rw [← hetx]; congr 1; omega)
  have hslices : slice buf 0 (0 + 1) ++ headerRegion buf ++ slice buf 14 (14 + 1) ++ slice buf 15 (15 + k) ++
      slice buf (15 + k) (15 + k + 1) ++ slice buf (16 + k) (18 + k) ++ slice buf (18 + k) (18 + k + 1) = buf := by
    rw [show headerRegion buf = slice buf 1 14 from rfl, slice_append buf 0 1 14 (by omega) (by omega),
      slice_append buf 0 14 15 (by omega) (by omega), slice_append buf 0 15 (15 + k) (by omega) (by omega),
      slice_append buf 0 (15 + k) (15 + k + 1) (by omega) (by omega), show 15 + k + 1 = 16 + k by omega,
      slice_append buf 0 (16 + k) (18 + k) (by omega) (by omega),
      slice_append buf 0 (18 + k) (18 + k + 1) (by omega) (by omega), show 18 + k + 1 = buf.length by omega, slice_all]
  rw [h0, h1, h2, h3] at hslices
  exact hslices.symm

/-- Where a frame's parts stand: what the parser looks at, in a buffer of the byte pattern. -/
structure FramePlaces (p : Params) (buf region bodyText sum : Str) : Prop where
  length : buf.length = bodyText.length + 19
  stx : buf[0]? = some p.stx
  sep : buf[14]? = some SEP
  sep' : buf[15 + bodyText.length]? = some SEP
  etx : buf.getLast? = some p.etx
  region : headerRegion buf = region
  body : slice buf 15 (15 + bodyText.length) = bodyText
  sum : slice buf (16 + bodyText.length) (18 + bodyText.length) = sum

theorem framePattern_places (p : Params) (region bodyText sum : Str) (hr : region.length = 13) (hs : sum.length = 2) :
    FramePlaces p (framePattern p region bodyText sum) region bodyText sum where
  length := by
    rw [framePattern, List.length_append, List.length_append, frameFront_length, List.length_singleton]
    omega
  stx := by simp [framePattern, frameFront]
  sep := by
    have h := getElem?_between ([p.stx] ++ region) (bodyText ++ [SEP] ++ sum ++ [p.etx]) SEP 14 (by simp [hr])
    simpa [framePattern, frameFront] using h
  sep' := by
    have h := getElem?_between ([p.stx] ++ region ++ [SEP] ++ bodyText) (sum ++ [p.etx]) SEP (15 + bodyText.length)
      (by simp [hr]; omega)
    simpa [framePattern, frameFront] using h
  etx := by simp [framePattern]
  region := by
    have h := slice_between [p.stx] region ([SEP] ++ bodyText ++ [SEP] ++ sum ++ [p.etx]) 1 14 rfl (by simp [hr])
    simpa [framePattern, frameFront, headerRegion, HEADER_LEN] using h
  body := by
    have h := slice_between ([p.stx] ++ region ++ [SEP]) bodyText ([SEP] ++ sum ++ [p.etx]) 15 (15 + bodyText.length)
      (by simp [hr]) (by simp [hr])
    simpa [framePattern, frameFront] using h
  sum := slice_between _ _ _ _ _ (by rw [frameFront_length]; omega) (by rw [frameFront_length]; omega)

/-- Parser step 2 passes for a text and the end delimiter, under FIRST_ETX where none stands in the text (R183). -/
theorem endsFrame_append_etx (p : Params) (t : Str) :
    endsFrame p (t ++ [p.etx]) ↔ (p.etxCheck = .firstEtx → p.etx ∉ t) := by
  unfold endsFrame
  cases p.etxCheck <;> simp

/-! ### What PARSE accepts -/

theorem parseFrame_of_carved (p : Params) (buf : Str) (h : Header) (k : Nat) (hs : startsFrame p buf = true)
    (he : endError p buf = none) (hsplit : splitFields (headerRegion buf) = headerFields h)
    (hc : carvedLength p buf h.len = some k) :
    parseFrame p buf = .ok (h, slice buf 15 (15 + k), slice buf (16 + k) (18 + k)) := by
  have hend : 3 + HEADER_LEN + k + CHECKSUM_LEN = 18 + k := by simp only [HEADER_LEN, CHECKSUM_LEN]; omega
  unfold parseFrame
  simp only [hs, he, hsplit, headerFields, hc, hend, if_true]
  rfl

/-- PARSE accepts exactly the byte pattern of four separator-free fields and a `len` that declares the body length
(R181, R185, R190). -/
theorem parseFrame_eq_ok_iff (p : Params) (buf : Str) (h : Header) (bodyText sum : Str) :
    parseFrame p buf = .ok (h, bodyText, sum) ↔
      endsFrame p buf ∧ buf = framePattern p (joinFields (headerFields h)) bodyText sum ∧
      (∀ f ∈ headerFields h, SEP ∉ f) ∧ (joinFields (headerFields h)).length = 13 ∧ sum.length = 2 ∧
      decimalValue h.len = some (bodyText.length + 17) := by
  constructor
  · intro hp
    obtain ⟨-, herr⟩ | ⟨-, e, -, herr⟩ | ⟨-, hend, hfields⟩ := parseFrame_cases p buf
    · cases hp.symm.trans herr
    · cases hp.symm.trans herr
    obtain ⟨-, herr⟩ | ⟨trn, len, role, ot, hsplit, ⟨-, herr⟩ | ⟨k, hk, hok⟩⟩ := hfields
    · cases hp.symm.trans herr
    · cases hp.symm.trans herr
    · rw [show 16 + k + 2 = 18 + k by omega] at hok
      cases hp.symm.trans hok
      obtain ⟨hdec, hlen, hstx, hsep, hsep', hetx⟩ := (carvedLength_eq_some_iff p buf len k).1 hk
      obtain ⟨hregion, hnosep⟩ := (splitFields_eq_iff _ _ (List.cons_ne_nil _ _)).1 hsplit
      have hbody : (slice buf 15 (15 + k)).length = k := by rw [slice_length _ _ _ (by omega) (by omega)]; omega
      refine ⟨(endError_eq_none_iff p buf).1 hend, ?_, hnosep, ?_, ?_, by rw [hbody]; exact hdec⟩
      · exact hregion ▸ eq_framePattern_of_places p buf k hlen hstx hsep hsep' hetx
      · exact hregion ▸ slice_length buf 1 14 (by omega) (by omega)
      · rw [slice_length _ _ _ (by omega) (by omega)]; omega
  · rintro ⟨hend, rfl, hnosep, hregion, hsum, hdec⟩
    have hplaces := framePattern_places p (joinFields (headerFields h)) bodyText sum hregion hsum
    have hok := parseFrame_of_carved p _ h bodyText.length
      ((startsFrame_iff p _).2 ⟨by rw [hplaces.length]; omega, hplaces.stx⟩) ((endError_eq_none_iff p _).2 hend)
      ((splitFields_eq_iff _ _ (List.cons_ne_nil _ _)).2 ⟨hplaces.region, hnosep⟩)
      ((carvedLength_eq_some_iff p _ h.len bodyText.length).2
        ⟨hdec, hplaces.length, hplaces.stx, hplaces.sep, hplaces.sep', hplaces.etx⟩)
    rw [hok, hplaces.body, hplaces.sum]

theorem joinFields_headerFields (h : Header) :
    joinFields (headerFields h) = h.trn ++ SEP :: h.len ++ SEP :: h.role ++ SEP :: h.ot := by
  simp [headerFields, joinFields]

theorem joinFields_headerFields_length (h : Header) :
    (joinFields (headerFields h)).length = h.trn.length + h.len.length + h.role.length + h.ot.length + 3 := by
  simp only [joinFields_headerFields, List.length_append, List.length_cons]
  omega

theorem forall_mem_headerFields (h : Header) (P : Str → Prop) :
    (∀ f ∈ headerFields h, P f) ↔ P h.trn ∧ P h.len ∧ P h.role ∧ P h.ot := by
  simp [headerFields]

/-- A decimal text has a value other than zero exactly where the value writes it in the text's own width (R9). -/
theorem decimalValue_eq_some_iff (s : Str) (v : Nat) (hv : 0 < v) :
    decimalValue s = some v ↔ (∀ c ∈ s, isDigit c = true) ∧ dec s.length v = s ∧ v < 10 ^ s.length := by
  constructor
  · intro hs
    by_cases hne : s = []
    · rw [decimalValue_none s (.inl hne)] at hs; cases hs
    by_cases hdigits : ∀ c ∈ s, isDigit c = true
    · rw [decimalValue_some s hne hdigits] at hs
      cases hs
      exact ⟨hdigits, dec_undec s hdigits⟩
    · rw [decimalValue_none s (.inr (by simpa using hdigits))] at hs; cases hs
  · rintro ⟨-, hdec, hlt⟩
    have hpos : 0 < s.length := by
      refine Nat.pos_of_ne_zero fun hzero => ?_
      rw [hzero, Nat.pow_zero] at hlt
      omega
    rw [← hdec, decimalValue_dec _ _ hpos hlt]

/-- Settles O49: the pattern of `parseFrame_eq_ok_iff`, its header written out. -/
theorem parseAcceptsExactlyTheCarvedFrames : Obligations.ParseAcceptsExactlyTheCarvedFrames := by
  intro buf s h bodyText sum
  have hpattern : framePattern s.params (joinFields (headerFields h)) bodyText sum =
      s.params.stx :: (h.trn ++ SEP :: h.len ++ SEP :: h.role ++ SEP :: h.ot) ++ SEP :: bodyText ++ SEP :: sum ++
        [s.params.etx] := by
    simp [framePattern, frameFront, joinFields_headerFields]
  have hlen : (joinFields (headerFields h)).length = 13 ↔
      h.trn.length + h.len.length + h.role.length + h.ot.length = 10 := by
    rw [joinFields_headerFields_length]
    omega
  rw [exec_parse_parsed_iff, parseFrame_eq_ok_iff, hpattern, hlen,
    decimalValue_eq_some_iff h.len _ (Nat.succ_pos _), forall_mem_headerFields h (SEP ∉ ·)]
  simp only [and_assoc]

/-- Settles O50: past steps 1 to 3 PARSE accepts or raises invalid_message. -/
theorem lengthThatDoesNotCarveIsInvalid : Obligations.LengthThatDoesNotCarveIsInvalid := by
  intro buf s hlen hstx hend hcount hnot
  simp only [exec_parse_parsed_iff] at hnot
  rw [exec_parse_raised_iff]
  obtain ⟨hne, -⟩ | ⟨h, -, herr | ⟨bodyText, sum, hok⟩⟩ := parseFrame_of_ended s.params buf
    ((startsFrame_iff s.params buf).2 ⟨hlen, hstx⟩) ((endError_eq_none_iff s.params buf).2 hend)
  · exact absurd hcount hne
  · exact herr
  · exact absurd ⟨h, bodyText, sum, hok⟩ hnot

/-- Settles O51: the pattern of an accepted frame asks of the checksum only its length, and step 2 that no end delimiter
stands before the last byte under FIRST_ETX. -/
theorem checksumIsNotVerified : Obligations.ChecksumIsNotVerified := by
  intro front sum sum' s h bodyText _ hsum' hetx
  simp only [exec_parse_parsed_iff, parseFrame_eq_ok_iff, endsFrame_append_etx, framePattern]
  rintro ⟨hend, hbuf, hnosep, hregion, -, hdec⟩
  have hfront := List.append_cancel_right (List.append_cancel_right hbuf)
  refine ⟨fun hfirst hmem => ?_, by rw [hfront], hnosep, hregion, hsum', hdec⟩
  obtain hmem | hmem := List.mem_append.1 hmem
  · exact hend hfirst (List.mem_append_left sum hmem)
  · exact hetx hfirst hmem

/-! ### Parser step 2 -/

theorem parseFrame_of_endError (p : Params) (buf : Str) (e : Error) (hs : startsFrame p buf = true)
    (he : endError p buf = some e) : parseFrame p buf = .error e := by
  simp only [parseFrame, hs, he, if_true]

theorem endError_of_no_etx (p : Params) (buf : Str) (hc : p.etxCheck = .firstEtx) (h : p.etx ∉ buf) :
    endError p buf = some .invalidMessage := by
  have hfind : buf.findIdx? (· == p.etx) = none :=
    List.findIdx?_eq_none_iff.2 fun x hx => beq_false_of_ne fun heq => h (heq ▸ hx)
  simp only [endError, hc, hfind]

theorem endError_of_early_etx (p : Params) (buf : Str) (hc : p.etxCheck = .firstEtx) (h : p.etx ∈ buf.dropLast) :
    endError p buf = some .messageTooLong := by
  obtain hnone | hlong | ⟨-, -, hnot⟩ := endError_cases p buf
  · have hend := (endError_eq_none_iff p buf).1 hnone
    simp only [endsFrame, hc] at hend
    obtain ⟨-, hnot⟩ := hend
    exact absurd h hnot
  · exact hlong
  · exact absurd (List.dropLast_subset buf h) hnot

theorem endError_of_other_last (p : Params) (buf : Str) (hc : p.etxCheck = .lastByte)
    (h : buf.getLast? ≠ some p.etx) : endError p buf = some .messageTooLong := by
  simp only [endError, hc, if_neg h]

/-- Settles O47: past step 1 the error of step 2 is the answer. -/
theorem trailingBytesAreTooLong : Obligations.TrailingBytesAreTooLong := by
  intro buf s hlen hstx
  have hs := (startsFrame_iff s.params buf).2 ⟨hlen, hstx⟩
  simp only [exec_parse_raised_iff]
  exact ⟨fun hc h => parseFrame_of_endError _ _ _ hs (endError_of_no_etx _ _ hc h),
    fun hc h => parseFrame_of_endError _ _ _ hs (endError_of_early_etx _ _ hc h),
    fun hc h => parseFrame_of_endError _ _ _ hs (endError_of_other_last _ _ hc h)⟩

/-! ### What a frame and PBODY of its parts answer -/

/-- Under role O a frame decodes to the schema of its operation type, which does what PBODY does. -/
theorem decodeSchema_outcome_request (p : Params) (h : Header) (bodyText : Str) (hr : h.role = ROLE_O) :
    (decodeSchema h bodyText).bind (outcomeOf p) = (parseBody p h bodyText).map .body := by
  unfold decodeSchema parseBody
  simp only [hr, if_true]
  by_cases h31 : h.ot = OT_31
  · simp only [h31, if_true]; rfl
  by_cases h60 : h.ot = OT_60
  · simp only [h60, if_true]; rfl
  by_cases h51 : h.ot = OT_51
  · simp only [h51, true_or, if_true]; rfl
  by_cases h52 : h.ot = OT_52
  · simp only [h52, true_or, or_true, if_true]; rfl
  by_cases h53 : h.ot = OT_53
  · simp only [h53, or_true, if_true]; rfl
  · simp only [h31, h60, h51, h52, h53, or_self, if_false]; rfl

theorem decodeSchema_of_unmarked (h : Header) (bodyText : Str) (hr : h.role = ROLE_R)
    (h2 : ∀ sm, splitFields bodyText ≠ [MARK_A, sm])
    (h3 : ∀ x sm, splitFields bodyText ≠ [MARK_A, x, sm] ∧ splitFields bodyText ≠ [MARK_N, x, sm]) :
    decodeSchema h bodyText = .error .unsupportedOperation := by
  have hO : ROLE_R ≠ ROLE_O := by decide
  simp only [decodeSchema, hr, hO, if_false, if_true]
  split
  case h_1 mark sm hs =>
    have hA : mark ≠ MARK_A := fun hm => h2 sm (hm ▸ hs)
    exact if_neg hA
  case h_2 mark x sm hs =>
    obtain ⟨hnotA, hnotN⟩ := h3 x sm
    have hA : mark ≠ MARK_A := fun hm => hnotA (hm ▸ hs)
    have hN : mark ≠ MARK_N := fun hm => hnotN (hm ▸ hs)
    rw [if_neg hA, if_neg hN]
  case h_3 => rfl

/-- Under role R the count and the marker select the schema, as PBODY tells the responses apart. -/
theorem decodeSchema_outcome_response (p : Params) (h : Header) (bodyText : Str) (hr : h.role = ROLE_R) :
    (decodeSchema h bodyText).bind (outcomeOf p) = (parseBody p h bodyText).map .body := by
  rw [parseBody_of_response p h bodyText hr]
  obtain ⟨sm, hs, hp⟩ | ⟨mvp, sm, hs, hp⟩ | ⟨ec, sm, hs, hp⟩ | ⟨hp, h2, h3⟩ :=
    parseResponse_cases (splitFields bodyText)
  · rw [decodeSchema_ack2 h _ sm hr hs, hp]; rfl
  · rw [decodeSchema_ack3 h _ mvp sm hr hs, hp]; rfl
  · rw [decodeSchema_nack h _ ec sm hr hs, hp]; rfl
  · rw [decodeSchema_of_unmarked h _ hr h2 h3, hp]; rfl

/-- A frame ends in what PBODY makes of its header and body text (R69, R200). -/
theorem decodeSchema_outcome (p : Params) (h : Header) (bodyText : Str) :
    (decodeSchema h bodyText).bind (outcomeOf p) = (parseBody p h bodyText).map .body := by
  by_cases hO : h.role = ROLE_O
  · exact decodeSchema_outcome_request p h bodyText hO
  by_cases hR : h.role = ROLE_R
  · exact decodeSchema_outcome_response p h bodyText hR
  · rw [parseBody_of_unknownRole p h bodyText hO hR, decodeSchema, if_neg hO, if_neg hR]
    rfl

/-- Settles O8: both are measured as PBODY is, and end in what PBODY makes of them. -/
theorem frameIssueAnswersAsPbody : Obligations.FrameIssueAnswersAsPbody := by
  intro s h bodyText operands
  have houtcome : transactionOutcome s.params (.frame h bodyText) =
      transactionOutcome s.params (.command 0x70 { operands with header := h, bodyText := bodyText }) := by
    have hframe : (decode (.frame h bodyText)).bind (outcomeOf s.params) =
        (parseBody s.params h bodyText).map .body := decodeSchema_outcome s.params h bodyText
    rw [transactionOutcome, hframe]
    rfl
  rw [step_eq_answer _ _ (State.present_issued s _), step_eq_answer _ _ (State.present_issued s _),
    State.begun_present, State.begun_present, State.present_params, State.present_params, houtcome]

/-! ### Operations 60, 51, 52 and 53 -/

theorem parseBody_of_session (p : Params) (h : Header) (bodyText : Str) (hr : h.role = ROLE_O) (hot : h.ot = OT_60) :
    parseBody p h bodyText = parseO60 p (splitFields bodyText) := by
  have hne : OT_60 ≠ OT_31 := by decide
  simp [parseBody, hr, hot, hne]

theorem parseBody_of_submit (p : Params) (h : Header) (bodyText : Str) (hr : h.role = ROLE_O)
    (hot : h.ot = OT_51 ∨ h.ot = OT_52 ∨ h.ot = OT_53) :
    parseBody p h bodyText = parseO5x p (splitFields bodyText) := by
  have h31 : h.ot ≠ OT_31 := by obtain hot | hot | hot := hot <;> rw [hot] <;> decide
  have h60 : h.ot ≠ OT_60 := by obtain hot | hot | hot := hot <;> rw [hot] <;> decide
  simp [parseBody, hr, h31, h60, hot]

theorem parseO60_render (p : Params) (b : SessionRequest) :
    parseO60 p (renderBody (.sessionRequest b)) =
      .ok (.sessionRequest { b with pwd := toLocal p b.pwd, npwd := toLocal p b.npwd }) := rfl

theorem parseO60_of_length_ne (p : Params) (f : List Str) (hf : f.length ≠ 12) :
    parseO60 p f = .error .invalidCommandSyntax := by
  simp [parseO60, hf]

theorem parseO5x_of_length_ne (p : Params) (f : List Str) (hf : f.length ≠ 33) :
    parseO5x p f = .error .invalidCommandSyntax := by
  simp [parseO5x, hf]

theorem renderBody_ne_nil (b : Body) : renderBody b ≠ [] := by
  match b with
  | .addressInfoRequest _ => exact List.cons_ne_nil _ _
  | .sessionRequest _ => exact List.cons_ne_nil _ _
  | .submitShortMessage _ => exact List.cons_ne_nil _ _
  | .ack { mvp := none, sm := _ } => exact List.cons_ne_nil _ _
  | .ack { mvp := some _, sm := _ } => exact List.cons_ne_nil _ _
  | .nack _ => exact List.cons_ne_nil _ _

theorem splitFields_renderBody (b : Body) (h : ∀ f ∈ renderBody b, SEP ∉ f) :
    splitFields (joinFields (renderBody b)) = renderBody b :=
  splitFields_joinFields _ (renderBody_ne_nil b) h

/-- Settles O55: the twelve fields of the text are those of the record. -/
theorem sessionRequestTranscodesPasswords : Obligations.SessionRequestTranscodesPasswords := by
  intro h s hr hot
  simp only [exec_ok_iff, exec_raised_iff, outcomeOf, map_body_eq_ok, map_eq_error,
    parseBody_of_session s.params h _ hr hot]
  refine ⟨fun b hsep => ?_, fun bodyText hcount => ?_, parseO60_render s.params, parseO60_of_length_ne s.params⟩
  · rw [splitFields_renderBody _ hsep, parseO60_render]
  · exact parseO60_of_length_ne _ _ (by rwa [splitFields_length])

/-- The three schemas of operations 51, 52 and 53 do what ParseO5x does (R203). -/
theorem outcomeOf_submit (p : Params) (i : List Str → Instr) (fields : List Str)
    (hi : i ∈ [Instr.frameO51, Instr.frameO52, Instr.frameO53]) :
    outcomeOf p (i fields) = (parseO5x p fields).map .body := by
  simp only [List.mem_cons, List.not_mem_nil, or_false] at hi
  obtain rfl | rfl | rfl := hi <;> rfl

/-- Settles O56: the 33 fields of the text are those of the record, and its sender is what SNDDEC makes of two of
them. -/
theorem submitDecodesItsSender : Obligations.SubmitDecodesItsSender := by
  intro h s hr hot
  have hpbody := fun bodyText => parseBody_of_submit s.params h bodyText hr hot
  refine ⟨fun b text hdec => ?decoded, fun b hdec => ?undecodable, fun bodyText hcount => ?count,
    fun fields hcount i hi => ?fieldCount⟩
  case decoded =>
    have hok : parseO5x s.params (renderBody (.submitShortMessage b)) =
        .ok (.submitShortMessage { b with oadc := text }) := by rw [parseO5x_render, hdec]
    refine ⟨fun hsep => ?_, fun i hi => ?_⟩
    · exact exec_pbody_of_body _ _ _ _ (by rw [hpbody, splitFields_renderBody _ hsep, hok])
    · exact exec_of_ok _ _ _ (by rw [outcomeOf_submit _ _ _ hi, hok]; rfl)
  case undecodable =>
    have herr : parseO5x s.params (renderBody (.submitShortMessage b)) = .error .invalidCommandSyntax := by
      rw [parseO5x_render, hdec]
    refine ⟨fun hsep => ?_, fun i hi => ?_⟩
    · rw [exec_pbody_raised_iff, hpbody, splitFields_renderBody _ hsep, herr]
    · exact exec_of_error _ _ _ (by rw [outcomeOf_submit _ _ _ hi, herr]; rfl)
  case count =>
    rw [exec_pbody_raised_iff, hpbody]
    exact parseO5x_of_length_ne _ _ (by rwa [splitFields_length])
  case fieldCount =>
    exact exec_of_error _ _ _ (by rw [outcomeOf_submit _ _ _ hi, parseO5x_of_length_ne _ _ hcount]; rfl)

/-! ### A rendered body dispatched -/

/-- A rendered body is dispatched to the body itself, where the passwords are fixed by TO_LOCAL and the sender stands as
it is (R209). -/
theorem parseBody_renderBody (p : Params) (b : Body) (h : Header) (hmatch : bodyMatches h b)
    (hsep : ∀ f ∈ renderBody b, SEP ∉ f)
    (hpwd : ∀ x, b = .sessionRequest x → toLocal p x.pwd = x.pwd ∧ toLocal p x.npwd = x.npwd)
    (hotoa : ∀ x, b = .submitShortMessage x → x.otoa ≠ ALNUM_OTOA) :
    parseBody p h (joinFields (renderBody b)) = .ok b := by
  have hsplit := splitFields_renderBody b hsep
  match b with
  | .addressInfoRequest x =>
    obtain ⟨hr, hot⟩ := hmatch
    rw [parseBody_of_addressQuery p h _ hr hot, hsplit]
    rfl
  | .sessionRequest x =>
    obtain ⟨hr, hot⟩ := hmatch
    obtain ⟨hp, hn⟩ := hpwd x rfl
    rw [parseBody_of_session p h _ hr hot, hsplit, parseO60_render, hp, hn]
  | .submitShortMessage x =>
    obtain ⟨hr, hot⟩ := hmatch
    rw [parseBody_of_submit p h _ hr hot, hsplit, parseO5x_render, decodeSender_of_other_type p _ _ (hotoa x rfl)]
  | .ack { mvp := none, sm := sm } =>
    rw [parseBody_of_response p h _ hmatch, hsplit]
    exact parseResponse_ack2 sm
  | .ack { mvp := some mvp, sm := sm } =>
    rw [parseBody_of_response p h _ hmatch, hsplit]
    exact parseResponse_ack3 mvp sm
  | .nack x =>
    rw [parseBody_of_response p h _ hmatch, hsplit]
    exact parseResponse_nack x.ec x.sm

/-- Settles O59: the text JOIN makes of the rendered fields splits into them. -/
theorem renderedBodyParsesBack : Obligations.RenderedBodyParsesBack := by
  intro b h s hmatch hsep hpwd hotoa
  refine ⟨renderBody b, joinFields (renderBody b), (exec_ok_iff _ _ _).2 rfl, (exec_ok_iff _ _ _).2 rfl, ?_⟩
  exact exec_pbody_of_body _ _ _ _ (parseBody_renderBody s.params b h hmatch hsep hpwd hotoa)

/-! ### A composed message parsed -/

theorem isHexDigit_of_isDigit : ∀ c : Byte, isDigit c = true → isHexDigit c = true := by decide

/-- R8 keeps the end delimiter out of the numbers and the checksum that the composer writes itself. -/
theorem etx_notMem_of_hex (p : Params) (hp : p.Legal) (t : Str) (ht : ∀ c ∈ t, isHexDigit c = true) : p.etx ∉ t := by
  obtain ⟨-, -, -, -, hetx, -⟩ := hp
  intro hmem
  simp [reservedForText, ht _ hmem] at hetx

theorem sep_notMem_dec (n v : Nat) : SEP ∉ dec n v := by
  intro hmem
  have hdigit := dec_isDigit n v SEP hmem
  exact absurd hdigit (by decide)

theorem etx_notMem_joinFields (p : Params) (hp : p.Legal) (fields : List Str) (h : ∀ f ∈ fields, p.etx ∉ f) :
    p.etx ∉ joinFields fields := by
  intro hmem
  obtain ⟨-, -, hsep, -⟩ := hp
  obtain heq | ⟨f, hf, hin⟩ := mem_joinFields fields p.etx hmem
  · exact hsep heq
  · exact h f hf hin

theorem checksum_isHex (m : Str) : ∀ c ∈ checksum m, isHexDigit c = true :=
  hexText_isHex [m.foldl (fun t c => t + c) 0]

/-- A header that COMPOSE can write to the parser's measure (R166 (b)): the widths of R62, no separator and no end
delimiter in a field. -/
structure CanonicalHeader (p : Params) (trn role ot : Str) : Prop where
  widths : trn.length = 2 ∧ role.length = 1 ∧ ot.length = 2
  noSep : SEP ∉ trn ∧ SEP ∉ role ∧ SEP ∉ ot
  noEtx : p.etx ∉ trn ∧ p.etx ∉ role ∧ p.etx ∉ ot

/-- Everything before the checksum of a message composed under a canonical header: its length is that of the body and 17
more (R162). -/
def canonicalFront (trn role ot body : Str) : Str := uncheckedMessage trn role ot (body.length + 17) body

/-- The end delimiter does not stand in a message whose body is free of it. -/
theorem etx_notMem_canonicalFront (p : Params) (hp : p.Legal) (trn role ot body : Str)
    (hh : CanonicalHeader p trn role ot) (hbody : p.etx ∉ body) : p.etx ∉ canonicalFront trn role ot body := by
  have hlen : p.etx ∉ dec 5 (body.length + 17) :=
    etx_notMem_of_hex p hp _ fun c hc => isHexDigit_of_isDigit c (dec_isDigit 5 _ c hc)
  obtain ⟨htrn, hrole, hot⟩ := hh.noEtx
  obtain ⟨-, -, hsep, -⟩ := hp
  simp [canonicalFront, uncheckedMessage, htrn, hrole, hot, hbody, hlen, hsep]

theorem composeMessage_of_canonical (p : Params) (trn role ot : Str) (fields : List Str)
    (hh : CanonicalHeader p trn role ot) (hlen : (joinFields fields).length ≤ 99982) :
    composeMessage trn role ot fields =
      .ok (canonicalFront trn role ot (joinFields fields) ++
        checksum (canonicalFront trn role ot (joinFields fields))) := by
  obtain ⟨htrn, hrole, hot⟩ := hh.widths
  have hn : (joinFields fields).length + 17 =
      trn.length + role.length + ot.length + (joinFields fields).length + 12 := by omega
  rw [composeMessage_eq trn role ot fields _ hn, if_neg (by omega)]
  rfl

/-- A wrapped message is the byte pattern of a frame. -/
theorem wrapMessage_eq_framePattern (p : Params) (trn role ot body sum : Str) (n : Nat) :
    wrapMessage p (uncheckedMessage trn role ot n body ++ sum) =
      framePattern p (joinFields (headerFields { trn := trn, len := dec 5 n, role := role, ot := ot })) body sum := by
  simp [wrapMessage, uncheckedMessage, framePattern, frameFront, joinFields_headerFields]

/-- A message composed under a canonical header, wrapped, passes the parser with the parts it was composed of
(R166 (b)). -/
theorem parseFrame_wrapMessage (p : Params) (hp : p.Legal) (trn role ot body : Str)
    (hh : CanonicalHeader p trn role ot) (hbody : p.etx ∉ body) (hlen : body.length ≤ 99982) :
    parseFrame p (wrapMessage p (canonicalFront trn role ot body ++ checksum (canonicalFront trn role ot body))) =
      .ok ({ trn := trn, len := dec 5 (body.length + 17), role := role, ot := ot }, body,
        checksum (canonicalFront trn role ot body)) := by
  have hfront := etx_notMem_canonicalFront p hp trn role ot body hh hbody
  have hsum := etx_notMem_of_hex p hp _ (checksum_isHex (canonicalFront trn role ot body))
  obtain ⟨hstx, -⟩ := hp
  obtain ⟨⟨wtrn, wrole, wot⟩, ⟨strn, srole, sot⟩, -⟩ := hh
  refine (parseFrame_eq_ok_iff _ _ _ _ _).2
    ⟨?ends, wrapMessage_eq_framePattern _ _ _ _ _ _ _, ?noSep, ?region, checksum_length _, ?length⟩
  case ends =>
    refine (endsFrame_append_etx p _).2 fun _ hmem => ?_
    simp only [List.mem_cons, List.mem_append] at hmem
    obtain heq | hmem | hmem := hmem
    · exact hstx heq.symm
    · exact hfront hmem
    · exact hsum hmem
  case noSep => exact (forall_mem_headerFields _ _).2 ⟨strn, sep_notMem_dec _ _, srole, sot⟩
  case region =>
    rw [joinFields_headerFields_length]
    simp only [wtrn, wrole, wot, dec_length]
  case length => exact decimalValue_dec 5 _ (by decide) (by omega)

/-- Settles O52: a wrapped message is the byte pattern that PARSE accepts. -/
theorem composedFrameAlwaysParses : Obligations.ComposedFrameAlwaysParses := by
  intro trn role ot fields s body hp hbody htrn hrole hot strn srole sot etrn erole eot efields hlen
  subst hbody
  have hh : CanonicalHeader s.params trn role ot := ⟨⟨htrn, hrole, hot⟩, ⟨strn, srole, sot⟩, ⟨etrn, erole, eot⟩⟩
  have hcompose := composeMessage_of_canonical s.params trn role ot fields hh hlen
  have hparse := parseFrame_wrapMessage s.params hp trn role ot _ hh
    (etx_notMem_joinFields s.params hp fields efields) hlen
  refine ⟨_, _, _, exec_of_ok _ _ _ (map_ok _ _ _ hcompose), exec_of_ok _ _ _ rfl,
    (exec_parse_parsed_iff _ _ _ _ _).2 hparse, ?_⟩
  rw [exec_ok_iff, outcomeOf, List.length_append, checksum_length, CHECKSUM_LEN, Nat.add_sub_cancel, List.take_left]

/-! ### DECODE -/

theorem decodeFrame_of_parse_error (p : Params) (buf : Str) (e : Error) (hparse : parseFrame p buf = .error e) :
    decodeFrame p buf = .error e := by
  simp only [decodeFrame, hparse]

theorem decodeFrame_of_body_error (p : Params) (buf : Str) (h : Header) (bodyText sum : Str) (e : Error)
    (hparse : parseFrame p buf = .ok (h, bodyText, sum)) (hbody : parseBody p h bodyText = .error e) :
    decodeFrame p buf = .error e := by
  simp only [decodeFrame, hparse, hbody]

theorem decodeFrame_of_ok (p : Params) (buf : Str) (h : Header) (bodyText sum : Str) (b : Body)
    (hparse : parseFrame p buf = .ok (h, bodyText, sum)) (hbody : parseBody p h bodyText = .ok b) :
    decodeFrame p buf = .ok (h, b, sum) := by
  simp only [decodeFrame, hparse, hbody]

/-- Settles O53: the body is looked at only where PARSE accepts. -/
theorem decodeIsParseThenPbody : Obligations.DecodeIsParseThenPbody := by
  intro buf s
  simp only [exec_parse_raised_iff, exec_pbody_raised_iff]
  refine ⟨fun e hparse => ?_, fun h bodyText sum hparse => ⟨fun e hbody => ?_, fun b hbody => ?_⟩⟩
  · exact exec_of_error _ _ _ (map_error _ _ _ (decodeFrame_of_parse_error _ _ e hparse))
  · exact exec_of_error _ _ _ (map_error _ _ _ (decodeFrame_of_body_error _ _ h bodyText sum e hparse hbody))
  · exact exec_of_ok _ _ _ (map_ok _ _ _ (decodeFrame_of_ok _ _ h bodyText sum b hparse hbody))

/-! ### The whole way out and back -/

/-- Which variant a header selects is settled by its role and operation type (R200). -/
theorem bodyMatches_of_eq (h h' : Header) (b : Body) (hrole : h.role = h'.role) (hot : h.ot = h'.ot)
    (hmatch : bodyMatches h b) : bodyMatches h' b := by
  cases b <;> simpa [bodyMatches, hrole, hot] using hmatch

theorem role_of_bodyMatches (h : Header) (b : Body) (hmatch : bodyMatches h b) :
    h.role = ROLE_O ∨ h.role = ROLE_R := by
  cases b
  case addressInfoRequest => exact .inl hmatch.1
  case sessionRequest => exact .inl hmatch.1
  case submitShortMessage => exact .inl hmatch.1
  case ack => exact .inr hmatch
  case nack => exact .inr hmatch

/-- The two roles are one byte, not the separator and, by R8, not the end delimiter. -/
theorem role_canonical (p : Params) (hp : p.Legal) (role : Str) (hr : role = ROLE_O ∨ role = ROLE_R) :
    role.length = 1 ∧ SEP ∉ role ∧ p.etx ∉ role := by
  obtain ⟨-, -, -, -, hetx, -⟩ := hp
  obtain ⟨c, rfl, hsep, hc⟩ : ∃ c, role = [c] ∧ SEP ≠ c ∧ reservedForText c = true := by
    obtain rfl | rfl := hr
    · exact ⟨_, rfl, by decide, by decide⟩
    · exact ⟨_, rfl, by decide, by decide⟩
  refine ⟨rfl, by simpa using hsep, fun hmem => ?_⟩
  rw [List.mem_singleton.1 hmem, hc] at hetx
  cases hetx

/-- Settles O60: the frame parses to the header and the joined fields, and these dispatch to the body. -/
theorem composedBodyDecodesBack : Obligations.ComposedBodyDecodesBack := by
  intro b trn role ot s body hp hmatch htrn hot strn sot etrn eot hfields hpwd hotoa hbody hlen
  subst hbody
  obtain ⟨hrole, srole, erole⟩ := role_canonical s.params hp role (role_of_bodyMatches _ b hmatch)
  have hh : CanonicalHeader s.params trn role ot := ⟨⟨htrn, hrole, hot⟩, ⟨strn, srole, sot⟩, ⟨etrn, erole, eot⟩⟩
  have hcompose := composeMessage_of_canonical s.params trn role ot (renderBody b) hh hlen
  have hparse := parseFrame_wrapMessage s.params hp trn role ot _ hh
    (etx_notMem_joinFields s.params hp (renderBody b) fun f hf => (hfields f hf).2) hlen
  have hdispatch := parseBody_renderBody s.params b
    { trn := trn, len := dec 5 ((joinFields (renderBody b)).length + 17), role := role, ot := ot }
    (bodyMatches_of_eq _ _ b rfl rfl hmatch) (fun f hf => (hfields f hf).1) hpwd hotoa
  exact ⟨_, _, _, exec_of_ok _ _ _ (map_ok _ _ _ hcompose), exec_of_ok _ _ _ rfl,
    exec_of_ok _ _ _ (map_ok _ _ _ (decodeFrame_of_ok _ _ _ _ _ b hparse hdispatch))⟩

/-! ### The errors an instruction may raise -/

/-- An operation raises no error but those named. -/
def RaisesOnly {α : Type} (errors : List Error) (x : Except Error α) : Prop := ∀ e, x = .error e → e ∈ errors

theorem raisesOnly_ok {α : Type} (errors : List Error) (a : α) : RaisesOnly errors (.ok a : Except Error α) :=
  fun _ h => by cases h

theorem raisesOnly_error {α : Type} (errors : List Error) (e : Error) (he : e ∈ errors) :
    RaisesOnly errors (.error e : Except Error α) := by
  rintro e' h
  cases h
  exact he

theorem RaisesOnly.map {α β : Type} {errors : List Error} {x : Except Error α} (h : RaisesOnly errors x) (f : α → β) :
    RaisesOnly errors (x.map f) :=
  fun e he => h e ((map_eq_error α β f x e).1 he)

/-- A choice raises what its two branches raise. -/
theorem raisesOnly_ite {α : Type} {errors : List Error} (c : Prop) [Decidable c] {x y : Except Error α}
    (hx : RaisesOnly errors x) (hy : RaisesOnly errors y) : RaisesOnly errors (if c then x else y) := by
  split
  · exact hx
  · exact hy

/-- What an operation raises is settled by the one thing it is seen to answer. -/
theorem raisesOnly_of_cases {α : Type} {errors : List Error} {x : Except Error α}
    (h : (∃ a, x = .ok a) ∨ ∃ e ∈ errors, x = .error e) : RaisesOnly errors x := by
  obtain ⟨a, rfl⟩ | ⟨e, he, rfl⟩ := h
  · exact raisesOnly_ok errors a
  · exact raisesOnly_error errors e he

theorem codePointToHex_raisesOnly (c : Nat) : RaisesOnly [.undefinedInput] (codePointToHex c) :=
  raisesOnly_ite _ (raisesOnly_error _ _ (List.mem_singleton_self _)) (raisesOnly_ok _ _)

theorem sequenceToHex_raisesOnly (cps : CpSeq) : RaisesOnly [.undefinedInput] (sequenceToHex cps) := by
  refine raisesOnly_ite _ ?_ (raisesOnly_ok _ _)
  by_cases hgt : ∃ c ∈ cps, 0xFFFF < c
  · rw [wideHex_of_gt cps hgt]
    exact raisesOnly_error _ _ (List.mem_singleton_self _)
  · rw [wideHex_of_le cps (by simpa using hgt)]
    exact raisesOnly_ok _ _

theorem hexToBytes_raisesOnly (h : Str) : RaisesOnly [.undefinedInput] (hexToBytes h) := by
  obtain ⟨b, -, hok⟩ | ⟨-, herr⟩ := hexToBytes_cases h
  · exact raisesOnly_of_cases (.inl ⟨b, hok⟩)
  · exact raisesOnly_of_cases (.inr ⟨_, List.mem_singleton_self _, herr⟩)

theorem hexToBits_raisesOnly (h : Str) : RaisesOnly [.undefinedInput] (hexToBits h) := by
  unfold hexToBits
  cases hexNibbles h with
  | none => exact raisesOnly_error _ _ (List.mem_singleton_self _)
  | some ns => exact raisesOnly_ok _ _

theorem chunkBytes_raisesOnly (b : Str) (maxSize : Nat) : RaisesOnly [.undefinedInput] (chunkBytes b maxSize) :=
  raisesOnly_ite _ (raisesOnly_error _ _ (List.mem_singleton_self _))
    (raisesOnly_ite _ (raisesOnly_ok _ _) (raisesOnly_ok _ _))

theorem padToMultiple_raisesOnly (b : Str) (width : Nat) : RaisesOnly [.undefinedInput] (padToMultiple b width) :=
  raisesOnly_ite _ (raisesOnly_error _ _ (List.mem_singleton_self _)) (raisesOnly_ok _ _)

theorem reverseDecode_raisesOnly (r : Str) : RaisesOnly [.undefinedInput] (reverseDecode r) :=
  raisesOnly_ite _ (raisesOnly_ok _ _) (raisesOnly_error _ _ (List.mem_singleton_self _))

theorem advanceDecimal_raisesOnly (value : Str) (min max : Nat) :
    RaisesOnly [.undefinedInput] (advanceDecimal value min max) := by
  unfold advanceDecimal
  cases decimalValue value with
  | none => exact raisesOnly_error _ _ (List.mem_singleton_self _)
  | some v => exact raisesOnly_ok _ _

theorem renderTrn_raisesOnly (value : Nat) : RaisesOnly [.undefinedInput] (renderTrn value) :=
  raisesOnly_ite _ (raisesOnly_error _ _ (List.mem_singleton_self _)) (raisesOnly_ok _ _)

theorem semiOctetCount_raisesOnly (h : Str) : RaisesOnly [.undefinedInput] (semiOctetCount h) :=
  raisesOnly_ite _ (raisesOnly_error _ _ (List.mem_singleton_self _)) (raisesOnly_ok _ _)

theorem encodeSender_raisesOnly (p : Params) (text : Str) : RaisesOnly [.undefinedInput] (encodeSender p text) := by
  obtain ⟨-, hok⟩ | ⟨_, _, -, -, -, ⟨-, hok⟩ | ⟨-, herr⟩⟩ := encodeSender_cases p text
  · exact raisesOnly_of_cases (.inl ⟨_, hok⟩)
  · exact raisesOnly_of_cases (.inl ⟨_, hok⟩)
  · exact raisesOnly_of_cases (.inr ⟨_, List.mem_singleton_self _, herr⟩)

theorem decodeSender_raisesOnly (p : Params) (otoa field : Str) :
    RaisesOnly [.undefinedInput] (decodeSender p otoa field) := by
  obtain ⟨-, hok⟩ | ⟨-, _, _, _, -, hok⟩ | ⟨-, -, herr⟩ := decodeSender_cases p otoa field
  · exact raisesOnly_of_cases (.inl ⟨_, hok⟩)
  · exact raisesOnly_of_cases (.inl ⟨_, hok⟩)
  · exact raisesOnly_of_cases (.inr ⟨_, List.mem_singleton_self _, herr⟩)

theorem composeMessage_raisesOnly (trn role ot : Str) (fields : List Str) :
    RaisesOnly [.undefinedInput] (composeMessage trn role ot fields) := by
  rw [composeMessage_eq trn role ot fields _ rfl]
  exact raisesOnly_ite _ (raisesOnly_error _ _ (List.mem_singleton_self _)) (raisesOnly_ok _ _)

theorem createMessage_raisesOnly (p : Params) (current : Nat) (ot : Str) (fields : List Str) :
    RaisesOnly [.undefinedInput] (createMessage p current ot fields) := by
  intro e he
  cases hrender : renderTrn (advanceCounter current p.trnMin p.trnMax) with
  | error e' =>
    simp only [createMessage, hrender] at he
    cases he
    exact renderTrn_raisesOnly _ e hrender
  | ok trn =>
    cases hcompose : composeMessage trn ROLE_O ot fields with
    | error e' =>
      simp only [createMessage, hrender, hcompose] at he
      cases he
      exact composeMessage_raisesOnly _ _ _ _ e hcompose
    | ok m =>
      simp only [createMessage, hrender, hcompose] at he
      cases he

theorem endError_mem (p : Params) (buf : Str) (e : Error) (he : endError p buf = some e) :
    e = .invalidMessage ∨ e = .messageTooLong := by
  obtain hnone | hlong | ⟨hinv, -⟩ := endError_cases p buf
  · cases he.symm.trans hnone
  · cases he.symm.trans hlong
    exact .inr rfl
  · cases he.symm.trans hinv
    exact .inl rfl

/-- The three frame errors are all that PARSE raises (R231). -/
theorem parseFrame_raisesOnly (p : Params) (buf : Str) :
    RaisesOnly [.invalidMessage, .messageTooLong, .invalidHeader] (parseFrame p buf) := by
  obtain ⟨-, herr⟩ | ⟨-, e, he, herr⟩ | ⟨-, -, hfields⟩ := parseFrame_cases p buf
  · exact raisesOnly_of_cases (.inr ⟨_, by simp, herr⟩)
  · obtain rfl | rfl := endError_mem p buf e he
    · exact raisesOnly_of_cases (.inr ⟨_, by simp, herr⟩)
    · exact raisesOnly_of_cases (.inr ⟨_, by simp, herr⟩)
  obtain ⟨-, herr⟩ | ⟨_, _, _, _, -, ⟨-, herr⟩ | ⟨_, -, hok⟩⟩ := hfields
  · exact raisesOnly_of_cases (.inr ⟨_, by simp, herr⟩)
  · exact raisesOnly_of_cases (.inr ⟨_, by simp, herr⟩)
  · exact raisesOnly_of_cases (.inl ⟨_, hok⟩)

theorem parseO31_raisesOnly (f : List Str) : RaisesOnly [.invalidCommandSyntax] (parseO31 f) :=
  raisesOnly_ite _ (raisesOnly_error _ _ (List.mem_singleton_self _)) (raisesOnly_ok _ _)

theorem parseO60_raisesOnly (p : Params) (f : List Str) : RaisesOnly [.invalidCommandSyntax] (parseO60 p f) :=
  raisesOnly_ite _ (raisesOnly_error _ _ (List.mem_singleton_self _)) (raisesOnly_ok _ _)

theorem parseO5x_raisesOnly (p : Params) (f : List Str) : RaisesOnly [.invalidCommandSyntax] (parseO5x p f) := by
  obtain ⟨_, _, -, -, hok⟩ | ⟨herr, -⟩ := parseO5x_cases p f
  · exact raisesOnly_of_cases (.inl ⟨_, hok⟩)
  · exact raisesOnly_of_cases (.inr ⟨_, List.mem_singleton_self _, herr⟩)

theorem RaisesOnly.mono {α : Type} {errors errors' : List Error} {x : Except Error α} (h : RaisesOnly errors x)
    (hsub : errors ⊆ errors') : RaisesOnly errors' x :=
  fun e he => hsub (h e he)

/-- The two body errors are all that PBODY raises (R207, R231). -/
theorem parseBody_raisesOnly (p : Params) (h : Header) (bodyText : Str) :
    RaisesOnly [.invalidCommandSyntax, .unsupportedOperation] (parseBody p h bodyText) := by
  obtain ⟨-, -, hp⟩ | ⟨-, -, hp⟩ | ⟨-, -, hp⟩ | ⟨-, hp⟩ | ⟨-, hp⟩ := parseBody_cases p h bodyText
  · exact hp ▸ (parseO31_raisesOnly _).mono (by simp)
  · exact hp ▸ (parseO60_raisesOnly p _).mono (by simp)
  · exact hp ▸ (parseO5x_raisesOnly p _).mono (by simp)
  · exact hp ▸ fun e he => by simp [parseResponse_error _ e he]
  · exact hp ▸ raisesOnly_error _ _ (by simp)

/-- DECODE raises the errors of PARSE and of PBODY (R189). -/
theorem decodeFrame_raisesOnly (p : Params) (buf : Str) :
    RaisesOnly [.invalidMessage, .messageTooLong, .invalidHeader, .invalidCommandSyntax, .unsupportedOperation]
      (decodeFrame p buf) := by
  obtain ⟨e, hparse, hdec⟩ | ⟨_, _, _, e, -, hbody, hdec⟩ | ⟨_, _, _, _, -, -, hdec⟩ := decodeFrame_cases p buf
  · exact raisesOnly_of_cases (.inr ⟨e, (parseFrame_raisesOnly p buf).mono (by simp) e hparse, hdec⟩)
  · exact raisesOnly_of_cases (.inr ⟨e, (parseBody_raisesOnly p _ _).mono (by simp) e hbody, hdec⟩)
  · exact raisesOnly_of_cases (.inl ⟨_, hdec⟩)

theorem outcomeOf_raisesOnly (p : Params) (i : Instr) : RaisesOnly (mayRaise i) (outcomeOf p i) := by
  cases i
  case cp2h c => exact (codePointToHex_raisesOnly c).map _
  case seq2h cps => exact (sequenceToHex_raisesOnly cps).map _
  case h2b h => exact (hexToBytes_raisesOnly h).map _
  case h2bits h => exact (hexToBits_raisesOnly h).map _
  case chunk b maxSize => exact (chunkBytes_raisesOnly b maxSize).map _
  case padr b width => exact (padToMultiple_raisesOnly b width).map _
  case revdec r => exact (reverseDecode_raisesOnly r).map _
  case advs value min max => exact (advanceDecimal_raisesOnly value min max).map _
  case rtrn value => exact (renderTrn_raisesOnly value).map _
  case sndenc text => exact (encodeSender_raisesOnly p text).map _
  case snddec otoa field => exact (decodeSender_raisesOnly p otoa field).map _
  case socnt h => exact (semiOctetCount_raisesOnly h).map _
  case compose trn role ot fields => exact (composeMessage_raisesOnly trn role ot fields).map _
  case create current ot fields => exact (createMessage_raisesOnly p current ot fields).map _
  case parse buf => exact (parseFrame_raisesOnly p buf).map _
  case decode buf => exact (decodeFrame_raisesOnly p buf).map _
  case pbody h bodyText => exact (parseBody_raisesOnly p h bodyText).map _
  case frameO31 fields => exact (parseO31_raisesOnly fields).map _
  case frameO60 fields => exact (parseO60_raisesOnly p fields).map _
  case frameO51 fields => exact (parseO5x_raisesOnly p fields).map _
  case frameO52 fields => exact (parseO5x_raisesOnly p fields).map _
  case frameO53 fields => exact (parseO5x_raisesOnly p fields).map _
  all_goals exact raisesOnly_ok _ _

/-- Settles O15: what an operation raises is what it is seen to raise. -/
theorem onlyNamedErrorsAreRaised : Obligations.OnlyNamedErrorsAreRaised :=
  fun i s e h => outcomeOf_raisesOnly s.params i e (outcome_of_exec_error i s e h)

/-! ### What a delivered result is like -/

/-- Every result an operation delivers has a property. -/
def DeliversOnly {α : Type} (P : α → Prop) (x : Except Error α) : Prop := ∀ a, x = .ok a → P a

theorem deliversOnly_ok {α : Type} {P : α → Prop} {a : α} (h : P a) : DeliversOnly P (.ok a : Except Error α) := by
  rintro a' heq
  cases heq
  exact h

theorem deliversOnly_map {α β : Type} {P : β → Prop} {x : Except Error α} {f : α → β}
    (h : DeliversOnly (fun a => P (f a)) x) : DeliversOnly P (x.map f) := by
  intro b hb
  obtain ⟨a, hx, rfl⟩ := (map_eq_ok α β f x b).1 hb
  exact h a hx

theorem hexToBits_delivers (h : Str) : DeliversOnly (fun v => v.length % 4 = 0) (hexToBits h) := by
  intro v hv
  unfold hexToBits at hv
  cases hn : hexNibbles h with
  | none => rw [hn] at hv; cases hv
  | some ns =>
    rw [hn] at hv
    cases hv
    rw [flatMap_nibbleBits_length]
    exact Nat.mul_mod_right 4 _

theorem chunkBytes_delivers (b : Str) (maxSize : Nat) : DeliversOnly (fun l => l ≠ []) (chunkBytes b maxSize) := by
  intro l hl
  unfold chunkBytes at hl
  split at hl
  case isTrue => cases hl
  case isFalse =>
    split at hl
    case isTrue => cases hl; exact List.cons_ne_nil _ _
    case isFalse hlong =>
      cases hl
      obtain ⟨k, hk⟩ : ∃ k, b.length = k + 1 := ⟨b.length - 1, by omega⟩
      have hne : b ≠ [] := fun h => by simp [h] at hk
      rw [hk, greedyCut_of_ne_nil _ _ _ hne]
      exact List.cons_ne_nil _ _

theorem hexText_senderSound (p : Params) (b : Str) (hb : b ≠ []) : resultsSound p (.sender ALNUM_OTOA (hexText b)) := by
  have hlen := hexText_length b
  have hpos := List.length_pos_iff.2 hb
  exact .inr ⟨rfl, by omega, by omega, List.all_eq_true.2 (hexText_isHex b)⟩

/-- A sender is digits with an empty type, or hex text with type 5039 (R144). -/
theorem encodeSender_delivers (p : Params) (text : Str) :
    DeliversOnly (fun r => resultsSound p (.sender r.1 r.2)) (encodeSender p text) := by
  intro r hr
  obtain ⟨hall, hok⟩ | ⟨_, n, -, rfl, -, ⟨-, hok⟩ | ⟨-, herr⟩⟩ := encodeSender_cases p text
  · cases hr.symm.trans hok
    exact .inl ⟨rfl, hall⟩
  · cases hr.symm.trans hok
    exact hexText_senderSound p (BitVec.ofNat 8 n :: pack7 p (toWire p text)) (List.cons_ne_nil _ _)
  · cases hr.symm.trans herr

/-- A created message carries a number of the counter's range (R134, R164). -/
theorem createMessage_delivers (p : Params) (hp : p.Legal) (current : Nat) (ot : Str) (fields : List Str) :
    DeliversOnly (fun r => r.1 ≤ p.trnMax) (createMessage p current ot fields) := by
  rw [createMessage_eq p current ot fields hp]
  obtain ⟨-, -, -, -, -, hrange, -⟩ := hp
  exact deliversOnly_map fun _ _ => advanceCounter_le current p.trnMin p.trnMax hrange

/-- The parts PARSE answers are sound (R181, R184, R185). -/
theorem parseFrame_delivers (p : Params) (buf : Str) :
    DeliversOnly (fun r => resultsSound p (.parsed r.1 r.2.1 r.2.2)) (parseFrame p buf) := by
  rintro ⟨h, bodyText, sum⟩ hr
  obtain ⟨-, -, hnosep, hregion, hsum, hdec⟩ := (parseFrame_eq_ok_iff p buf h bodyText sum).1 hr
  rw [joinFields_headerFields_length] at hregion
  refine ⟨⟨List.all_eq_true.2 fun f hf => (noSep_iff f).2 (hnosep f hf), hregion, ?_⟩, hdec, hsum⟩
  exact Option.isSome_iff_exists.2 ⟨_, hdec⟩

/-- The body PBODY answers is of the variant its header selects (R29, R200). -/
theorem parseBody_delivers (p : Params) (h : Header) (bodyText : Str) :
    DeliversOnly (bodyMatches h) (parseBody p h bodyText) := by
  intro b hb
  obtain ⟨hr, hot, hp⟩ | ⟨hr, hot, hp⟩ | ⟨hr, hot, hp⟩ | ⟨hr, hp⟩ | ⟨-, herr⟩ := parseBody_cases p h bodyText
  · obtain ⟨_, _, -, hok⟩ | ⟨-, herr⟩ := parseO31_cases (splitFields bodyText)
    · cases hb.symm.trans (hp.trans hok)
      exact ⟨hr, hot⟩
    · cases hb.symm.trans (hp.trans herr)
  · obtain ⟨_, -, hok⟩ | ⟨-, herr⟩ := parseO60_cases p (splitFields bodyText)
    · cases hb.symm.trans (hp.trans hok)
      exact ⟨hr, hot⟩
    · cases hb.symm.trans (hp.trans herr)
  · obtain ⟨_, _, -, -, hok⟩ | ⟨herr, -⟩ := parseO5x_cases p (splitFields bodyText)
    · cases hb.symm.trans (hp.trans hok)
      exact ⟨hr, hot⟩
    · cases hb.symm.trans (hp.trans herr)
  · obtain ⟨_, -, hok⟩ | ⟨_, _, -, hok⟩ | ⟨_, _, -, hok⟩ | ⟨herr, -⟩ := parseResponse_cases (splitFields bodyText)
    · cases hb.symm.trans (hp.trans hok)
      exact hr
    · cases hb.symm.trans (hp.trans hok)
      exact hr
    · cases hb.symm.trans (hp.trans hok)
      exact hr
    · cases hb.symm.trans (hp.trans herr)
  · cases hb.symm.trans herr

theorem decodeFrame_delivers (p : Params) (buf : Str) :
    DeliversOnly (fun r => resultsSound p (.decoded r.1 r.2.1 r.2.2)) (decodeFrame p buf) := by
  intro r hr
  obtain ⟨_, -, herr⟩ | ⟨_, _, _, _, -, -, herr⟩ | ⟨h, bodyText, sum, b, hparse, hbody, hok⟩ := decodeFrame_cases p buf
  · cases hr.symm.trans herr
  · cases hr.symm.trans herr
  · cases hr.symm.trans hok
    obtain ⟨hheader, -, hsum⟩ := parseFrame_delivers p buf _ hparse
    exact ⟨hheader, parseBody_delivers p h bodyText b hbody, hsum⟩

/-- Every result an instruction delivers under legal parameters is sound. -/
theorem outcomeOf_delivers (p : Params) (hp : p.Legal) (i : Instr) : DeliversOnly (resultsSound p) (outcomeOf p i) := by
  cases i
  case h2bits h => exact deliversOnly_map (hexToBits_delivers h)
  case chunk b maxSize => exact deliversOnly_map (chunkBytes_delivers b maxSize)
  case sndenc text => exact deliversOnly_map (encodeSender_delivers p text)
  case create current ot fields => exact deliversOnly_map (createMessage_delivers p hp current ot fields)
  case render body => exact deliversOnly_ok (renderBody_ne_nil body)
  case parse buf => exact deliversOnly_map (parseFrame_delivers p buf)
  case split text => exact deliversOnly_ok (splitFields_ne_nil text)
  case decode buf => exact deliversOnly_map (decodeFrame_delivers p buf)
  case b2h | revenc | adv | join | csum | wrap | frameRAck2 | frameRAck3 | frameRNack => exact deliversOnly_ok trivial
  all_goals exact deliversOnly_map fun _ _ => trivial

theorem transactionOutcome_delivers (p : Params) (hp : p.Legal) (w : Issue) :
    DeliversOnly (resultsSound p) (transactionOutcome p w) := by
  intro r hr
  cases hf : fitsCapacity p.maxBuf w with
  | false => cases hr.symm.trans (transactionOutcome_of_oversized p w hf)
  | true =>
    cases hd : decode w with
    | error e => cases hr.symm.trans (transactionOutcome_of_undecodable p w e hf hd)
    | ok i => exact outcomeOf_delivers p hp i r ((transactionOutcome_of_decoded p w i hf hd).symm.trans hr)

/-- Settles O12: a step writes no parameter, and the response it writes is the outcome of a transaction. -/
theorem everyStepKeepsTheInvariant : Obligations.EveryStepKeepsTheInvariant := by
  intro s t hinv hstep
  cases hw : s.issued with
  | none =>
    cases hstep.symm.trans (nothingPresentedChangesNothing s hw)
    exact hinv
  | some w =>
    obtain ⟨hlegal, -⟩ := hinv
    cases hstep.symm.trans (step_next_of_issued s w hw)
    refine ⟨hlegal, fun r hr => transactionOutcome_delivers s.params hlegal w r ?_⟩
    cases ho : transactionOutcome s.params w with
    | error e => simp [ho, responseOf] at hr
    | ok x => simpa [ho, responseOf] using hr

end Sys2Proof.Machine
end
